-- ==== Sys2Proof/Word.lean ====
section
/-! DEFINITION. Word.lean: the widths of the values the decoder handles (10_state.md R30, R36; 20_memory.md R61).
Their arithmetic and bit-field helpers stand in Machine/Operands.lean. -/

namespace Sys2Proof

/-- One byte of the instruction stream. -/
abbrev Byte := BitVec 8

/-- One 16-bit code unit of the instruction stream (R30, R61). -/
abbrev CodeUnit := BitVec 16

/-- The input `win[63:0]`: four code units in stream order, `u0 = win[15:0]` to `u3 = win[63:48]` (R30). -/
structure Window where
  u0 : CodeUnit
  u1 : CodeUnit
  u2 : CodeUnit
  u3 : CodeUnit
deriving DecidableEq, Repr

/-- The window as the 64 bits `win[63:0]` (R30). -/
def Window.bits (win : Window) : BitVec 64 := win.u3 ++ win.u2 ++ win.u1 ++ win.u0

/-- The instruction word `inst` (R12, R64): a 32-bit word, or a 16-bit word zero-extended. -/
abbrev Inst := BitVec 32

/-- A raw register index, 0 to 31 (R37). -/
abbrev RegIdx := BitVec 5

/-- A signed 32-bit immediate of the record, in two's complement (R36). -/
abbrev Imm := BitVec 32

end Sys2Proof
end

