-- ==== Sys2Proof/Config.lean ====
section
/-! DEFINITION. Config.lean: what one decode takes as parameters (00_scope.md R8 to R10), the fixed name sets of the
catalogs (10_state.md R38, R40; 30_encoding.md R113), and the one value the spec leaves free. -/

namespace Sys2Proof

/-- The configured ISA width XLEN: exactly three values (R8, R31). -/
inductive Xlen where
  | x32 | x64 | x128
deriving DecidableEq, Repr

/-- The boolean configuration flags (R9). -/
inductive Flag where
  | zcmp | zcmt | fint
  | xtheadba | xtheadbb | xtheadbs | xtheadcmo | xtheadcondmov | xtheadfmemidx | xtheadfmv
  | xtheadmac | xtheadmemidx | xtheadmempair | xtheadsync | xventanacondops
deriving DecidableEq, Repr

/-- The configuration record `cfg`, read-only for the duration of a decode (R9, R32). Every flag is 0 by default: the
source's "base config". -/
structure Cfg where
  zcmp : Bool := false
  zcmt : Bool := false
  fint : Bool := false
  xtheadba : Bool := false
  xtheadbb : Bool := false
  xtheadbs : Bool := false
  xtheadcmo : Bool := false
  xtheadcondmov : Bool := false
  xtheadfmemidx : Bool := false
  xtheadfmv : Bool := false
  xtheadmac : Bool := false
  xtheadmemidx : Bool := false
  xtheadmempair : Bool := false
  xtheadsync : Bool := false
  xventanacondops : Bool := false
deriving DecidableEq, Repr

/-- The catalogs, each an opcode numbering space of its own (R38). -/
inductive Catalog where
  | base | xthead | xventana
deriving DecidableEq, Repr

/-- Which register file an index names (R113). -/
inductive RegFile where
  | x | f | v
deriving DecidableEq, Repr

/-- The 75 codec tags, under the spec's own names (R40, R300 to R374). -/
inductive Codec where
  | none | u | j | i | i_sh | i_sh5 | i_sh6 | i_csr
  | i_csri | s | b | r | r_m | r2 | r2_m | r4_m
  | r_a | r_l | r_f | r_s12 | r_s1 | k_bs | k_rnum | fli
  | vsetvli | vsetivli | v_r | v_r2 | v_rd | v_i | v_iu | v_ldst_u
  | v_ldst | ci_none | ciw_4spn | cl_lw | cl_ld | cl_lq | cs_sw | cs_sd
  | cs_sq | ci | ci_li | ci_lui | ci_16sp | ci_sh | cb_sh | ci_lwsp
  | ci_ldsp | ci_lqsp | css_swsp | css_sdsp | css_sqsp | cr | cr_mv | cr_jr
  | cr_jalr | cs | cb | cb_imm | cj | cj_jal | zcb_lb | zcb_lh
  | zcb_sb | zcb_sh | zcb_ext | zcmp_push | zcmp_pop | zcmp_mv | zcmt_jt | r_imm2
  | r2_imm6 | r2_imm5 | r2_immhl
deriving DecidableEq, Repr

/-- FREE VALUE (DESIGN CHOICE, assumption log 3): the code unit at stream position `n` (counted in code units) when the
caller's stream does not reach that far. The spec says only that the caller presents "the next up to four units"
(R30). It has no body, so no proof can rest on a value. -/
opaque Config.unitPastEnd : Nat → CodeUnit

end Sys2Proof
end

