-- ==== Sys2Proof/Machine/Operands.lean ====
section
/-! DEFINITION. Machine/Operands.lean: the operand fields of the record (10_state.md R36), the bit-field helpers, the
codecs (30_encoding.md R300 to R374), the computed extractors (R137 to R141) and the inverse of each codec.
Every bit position is the spec's [from general knowledge, not in source] (93_implementation_defined.md K2 to K8, K22). -/

namespace Sys2Proof

/-- The operand fields of the record, each 0 unless a codec writes it (R36, R207). -/
structure Operands where
  rd : RegIdx := 0
  rs1 : RegIdx := 0
  rs2 : RegIdx := 0
  rs3 : RegIdx := 0
  imm : Imm := 0
  imm1 : Imm := 0
  rm : BitVec 3 := 0
  pred : BitVec 4 := 0
  succ : BitVec 4 := 0
  aq : BitVec 1 := 0
  rl : BitVec 1 := 0
  vm : BitVec 1 := 0
  vzimm : BitVec 11 := 0
  csr : BitVec 12 := 0
  rlist : BitVec 4 := 0
  bs : BitVec 2 := 0
  rnum : BitVec 4 := 0
deriving DecidableEq, Repr

/-- XLEN as a number (R8). -/
def Xlen.bits : Xlen → Nat
  | .x32 => 32
  | .x64 => 64
  | .x128 => 128

/-- `inst[hi:lo]` (R12). -/
def bits (w : Inst) (hi lo : Nat) : BitVec (hi - lo + 1) := w.extractLsb hi lo

/-- Bits `hi` down to `lo` of an operand field, for the encoder. -/
def slice {n : Nat} (v : BitVec n) (hi lo : Nat) : BitVec (hi - lo + 1) := v.extractLsb hi lo

/-- `sext_N` (R12): the field sign-extended to the record's signed 32-bit immediate. -/
def sextImm {n : Nat} (v : BitVec n) : Imm := v.signExtend 32

/-- `zext` (R12): the field zero-extended to the record's 32-bit immediate. -/
def zextImm {n : Nat} (v : BitVec n) : Imm := v.setWidth 32

/-- A primed 3-bit register field names register 8 + p (R139). -/
def primed (p : BitVec 3) : RegIdx := 8 + p.setWidth 5

/-- `sreg` (R140): p + 8 if p < 2, otherwise p + 16. -/
def sreg (p : BitVec 3) : RegIdx := if p < 2 then p.setWidth 5 + 8 else p.setWidth 5 + 16

/-- The immediate shift amount of codec `i_sh` (R304): 5, 6 or 7 bits by XLEN. -/
def shiftAmount (w : Inst) (x : Xlen) : Imm :=
  match x with
  | .x32 => zextImm (bits w 24 20)
  | .x64 => zextImm (bits w 25 20)
  | .x128 => zextImm (bits w 26 20)

/-- `shamt_l` (R137): the left-shift amount of `c.slli`; at XLEN 128 a zero field means 64. -/
def shamtL (w : Inst) (x : Xlen) : Imm :=
  let v := zextImm (bits w 12 12 ++ bits w 6 2)
  if x = .x128 ∧ v = 0 then 64 else v

/-- `shamt_r` (R138): the right-shift amount of `c.srli` and `c.srai`; at XLEN 128 bit 5 is copied into bit 6, then a
zero amount means 64. -/
def shamtR (w : Inst) (x : Xlen) : Imm :=
  let v := zextImm (bits w 12 12 ++ bits w 6 2)
  match x with
  | .x32 | .x64 => v
  | .x128 =>
    let v7 := zextImm (bits w 12 12 ++ bits w 12 12 ++ bits w 6 2)
    if v7 = 0 then 64 else v7

/-- The number of registers an `rlist` names (R141). -/
def rlistRegs (rlist : BitVec 4) : Nat :=
  if rlist.toNat < 4 then 0 else if rlist.toNat = 15 then 13 else rlist.toNat - 3

/-- The register bytes of an `rlist`, rounded up to 16 (R141). -/
def stackBase (rlist : BitVec 4) (x : Xlen) : Nat := ((rlistRegs rlist * (x.bits / 8) + 15) / 16) * 16

/-- `stack_adj` (R141): the Zcmp stack adjustment in bytes. -/
def stackAdj (rlist : BitVec 4) (spimm : BitVec 2) (x : Xlen) : Nat := stackBase rlist x + 16 * spimm.toNat

/-- Operand materializer (R206): the fields a codec extracts from the word the tree matched; every field a codec does not
write is 0 (R207). -/
def materialize (c : Codec) (w : Inst) (x : Xlen) : Operands :=
  match c with
  | .none => {}  -- R300
  | .u =>  -- R301
    { rd := bits w 11 7, imm := sextImm (bits w 31 12 ++ 0#12) }
  | .j =>  -- R302
    { rd := bits w 11 7, imm := sextImm (bits w 31 31 ++ bits w 19 12 ++ bits w 20 20 ++ bits w 30 21 ++ 0#1) }
  | .i =>  -- R303
    { rd := bits w 11 7, rs1 := bits w 19 15, imm := sextImm (bits w 31 20) }
  | .i_sh =>  -- R304
    { rd := bits w 11 7, rs1 := bits w 19 15, imm := shiftAmount w x }
  | .i_sh5 =>  -- R305
    { rd := bits w 11 7, rs1 := bits w 19 15, imm := zextImm (bits w 24 20) }
  | .i_sh6 =>  -- R306
    { rd := bits w 11 7, rs1 := bits w 19 15, imm := zextImm (bits w 25 20) }
  | .i_csr =>  -- R307
    { rd := bits w 11 7, rs1 := bits w 19 15, csr := bits w 31 20 }
  | .i_csri =>  -- R308
    { rd := bits w 11 7, imm := zextImm (bits w 19 15), csr := bits w 31 20 }
  | .s =>  -- R309
    { rs1 := bits w 19 15, rs2 := bits w 24 20, imm := sextImm (bits w 31 25 ++ bits w 11 7) }
  | .b =>  -- R310
    { rs1 := bits w 19 15, rs2 := bits w 24 20, imm := sextImm (bits w 31 31 ++ bits w 7 7 ++ bits w 30 25 ++ bits w 11 8 ++ 0#1) }
  | .r =>  -- R311
    { rd := bits w 11 7, rs1 := bits w 19 15, rs2 := bits w 24 20 }
  | .r_m =>  -- R312
    { rd := bits w 11 7, rs1 := bits w 19 15, rs2 := bits w 24 20, rm := bits w 14 12 }
  | .r2 =>  -- R313
    { rd := bits w 11 7, rs1 := bits w 19 15 }
  | .r2_m =>  -- R314
    { rd := bits w 11 7, rs1 := bits w 19 15, rm := bits w 14 12 }
  | .r4_m =>  -- R315
    { rd := bits w 11 7, rs1 := bits w 19 15, rs2 := bits w 24 20, rs3 := bits w 31 27, rm := bits w 14 12 }
  | .r_a =>  -- R316
    { rd := bits w 11 7, rs1 := bits w 19 15, rs2 := bits w 24 20, aq := bits w 26 26, rl := bits w 25 25 }
  | .r_l =>  -- R317
    { rd := bits w 11 7, rs1 := bits w 19 15, aq := bits w 26 26, rl := bits w 25 25 }
  | .r_f =>  -- R318
    { pred := bits w 27 24, succ := bits w 23 20 }
  | .r_s12 =>  -- R319
    { rs1 := bits w 19 15, rs2 := bits w 24 20 }
  | .r_s1 =>  -- R320
    { rs1 := bits w 19 15 }
  | .k_bs =>  -- R321
    { rd := bits w 11 7, rs1 := bits w 19 15, rs2 := bits w 24 20, bs := bits w 31 30 }
  | .k_rnum =>  -- R322
    { rd := bits w 11 7, rs1 := bits w 19 15, rnum := bits w 23 20 }
  | .fli =>  -- R323
    { rd := bits w 11 7, imm := zextImm (bits w 19 15) }
  | .vsetvli =>  -- R324
    { rd := bits w 11 7, rs1 := bits w 19 15, vzimm := bits w 30 20 }
  | .vsetivli =>  -- R325
    { rd := bits w 11 7, imm := zextImm (bits w 19 15), vzimm := (bits w 29 20).setWidth 11 }
  | .v_r =>  -- R326
    { rd := bits w 11 7, rs1 := bits w 19 15, rs2 := bits w 24 20, vm := bits w 25 25 }
  | .v_r2 =>  -- R327
    { rd := bits w 11 7, rs2 := bits w 24 20, vm := bits w 25 25 }
  | .v_rd =>  -- R328
    { rd := bits w 11 7, vm := bits w 25 25 }
  | .v_i =>  -- R329
    { rd := bits w 11 7, rs2 := bits w 24 20, imm := sextImm (bits w 19 15), vm := bits w 25 25 }
  | .v_iu =>  -- R330
    { rd := bits w 11 7, rs2 := bits w 24 20, imm := zextImm (bits w 19 15), vm := bits w 25 25 }
  | .v_ldst_u =>  -- R331
    { rd := bits w 11 7, rs1 := bits w 19 15, vm := bits w 25 25 }
  | .v_ldst =>  -- R332
    { rd := bits w 11 7, rs1 := bits w 19 15, rs2 := bits w 24 20, vm := bits w 25 25 }
  | .ci_none => {}  -- R333
  | .ciw_4spn =>  -- R334
    { rd := primed (bits w 4 2), rs1 := 2, imm := zextImm (bits w 10 7 ++ bits w 12 11 ++ bits w 5 5 ++ bits w 6 6 ++ 0#2) }
  | .cl_lw =>  -- R335
    { rd := primed (bits w 4 2), rs1 := primed (bits w 9 7), imm := zextImm (bits w 5 5 ++ bits w 12 10 ++ bits w 6 6 ++ 0#2) }
  | .cl_ld =>  -- R336
    { rd := primed (bits w 4 2), rs1 := primed (bits w 9 7), imm := zextImm (bits w 6 5 ++ bits w 12 10 ++ 0#3) }
  | .cl_lq =>  -- R337
    { rd := primed (bits w 4 2), rs1 := primed (bits w 9 7), imm := zextImm (bits w 10 10 ++ bits w 6 5 ++ bits w 12 11 ++ 0#4) }
  | .cs_sw =>  -- R338
    { rs1 := primed (bits w 9 7), rs2 := primed (bits w 4 2), imm := zextImm (bits w 5 5 ++ bits w 12 10 ++ bits w 6 6 ++ 0#2) }
  | .cs_sd =>  -- R339
    { rs1 := primed (bits w 9 7), rs2 := primed (bits w 4 2), imm := zextImm (bits w 6 5 ++ bits w 12 10 ++ 0#3) }
  | .cs_sq =>  -- R340
    { rs1 := primed (bits w 9 7), rs2 := primed (bits w 4 2), imm := zextImm (bits w 10 10 ++ bits w 6 5 ++ bits w 12 11 ++ 0#4) }
  | .ci =>  -- R341
    { rd := bits w 11 7, rs1 := bits w 11 7, imm := sextImm (bits w 12 12 ++ bits w 6 2) }
  | .ci_li =>  -- R342
    { rd := bits w 11 7, rs1 := 0, imm := sextImm (bits w 12 12 ++ bits w 6 2) }
  | .ci_lui =>  -- R343
    { rd := bits w 11 7, imm := sextImm (bits w 12 12 ++ bits w 6 2 ++ 0#12) }
  | .ci_16sp =>  -- R344
    { rd := 2, rs1 := 2, imm := sextImm (bits w 12 12 ++ bits w 4 3 ++ bits w 5 5 ++ bits w 2 2 ++ bits w 6 6 ++ 0#4) }
  | .ci_sh =>  -- R345
    { rd := bits w 11 7, rs1 := bits w 11 7, imm := shamtL w x }
  | .cb_sh =>  -- R346
    { rd := primed (bits w 9 7), rs1 := primed (bits w 9 7), imm := shamtR w x }
  | .ci_lwsp =>  -- R347
    { rd := bits w 11 7, rs1 := 2, imm := zextImm (bits w 3 2 ++ bits w 12 12 ++ bits w 6 4 ++ 0#2) }
  | .ci_ldsp =>  -- R348
    { rd := bits w 11 7, rs1 := 2, imm := zextImm (bits w 4 2 ++ bits w 12 12 ++ bits w 6 5 ++ 0#3) }
  | .ci_lqsp =>  -- R349
    { rd := bits w 11 7, rs1 := 2, imm := zextImm (bits w 5 2 ++ bits w 12 12 ++ bits w 6 6 ++ 0#4) }
  | .css_swsp =>  -- R350
    { rs1 := 2, rs2 := bits w 6 2, imm := zextImm (bits w 8 7 ++ bits w 12 9 ++ 0#2) }
  | .css_sdsp =>  -- R351
    { rs1 := 2, rs2 := bits w 6 2, imm := zextImm (bits w 9 7 ++ bits w 12 10 ++ 0#3) }
  | .css_sqsp =>  -- R352
    { rs1 := 2, rs2 := bits w 6 2, imm := zextImm (bits w 10 7 ++ bits w 12 11 ++ 0#4) }
  | .cr =>  -- R353
    { rd := bits w 11 7, rs1 := bits w 11 7, rs2 := bits w 6 2 }
  | .cr_mv =>  -- R354
    { rd := bits w 11 7, rs1 := bits w 6 2, rs2 := 0, imm := 0 }
  | .cr_jr =>  -- R355
    { rd := 0, rs1 := bits w 11 7, imm := 0 }
  | .cr_jalr =>  -- R356
    { rd := 1, rs1 := bits w 11 7, imm := 0 }
  | .cs =>  -- R357
    { rd := primed (bits w 9 7), rs1 := primed (bits w 9 7), rs2 := primed (bits w 4 2) }
  | .cb =>  -- R358
    { rs1 := primed (bits w 9 7), rs2 := 0, imm := sextImm (bits w 12 12 ++ bits w 6 5 ++ bits w 2 2 ++ bits w 11 10 ++ bits w 4 3 ++ 0#1) }
  | .cb_imm =>  -- R359
    { rd := primed (bits w 9 7), rs1 := primed (bits w 9 7), imm := sextImm (bits w 12 12 ++ bits w 6 2) }
  | .cj =>  -- R360
    { rd := 0, imm := sextImm (bits w 12 12 ++ bits w 8 8 ++ bits w 10 9 ++ bits w 6 6 ++ bits w 7 7 ++ bits w 2 2 ++ bits w 11 11 ++ bits w 5 3 ++ 0#1) }
  | .cj_jal =>  -- R361
    { rd := 1, imm := sextImm (bits w 12 12 ++ bits w 8 8 ++ bits w 10 9 ++ bits w 6 6 ++ bits w 7 7 ++ bits w 2 2 ++ bits w 11 11 ++ bits w 5 3 ++ 0#1) }
  | .zcb_lb =>  -- R362
    { rd := primed (bits w 4 2), rs1 := primed (bits w 9 7), imm := zextImm (bits w 5 5 ++ bits w 6 6) }
  | .zcb_lh =>  -- R363
    { rd := primed (bits w 4 2), rs1 := primed (bits w 9 7), imm := zextImm (bits w 5 5 ++ 0#1) }
  | .zcb_sb =>  -- R364
    { rs2 := primed (bits w 4 2), rs1 := primed (bits w 9 7), imm := zextImm (bits w 5 5 ++ bits w 6 6) }
  | .zcb_sh =>  -- R365
    { rs2 := primed (bits w 4 2), rs1 := primed (bits w 9 7), imm := zextImm (bits w 5 5 ++ 0#1) }
  | .zcb_ext =>  -- R366
    { rd := primed (bits w 9 7), rs1 := primed (bits w 9 7) }
  | .zcmp_push =>  -- R367
    { rlist := bits w 7 4, imm := -BitVec.ofNat 32 (stackAdj (bits w 7 4) (bits w 3 2) x) }
  | .zcmp_pop =>  -- R368
    { rlist := bits w 7 4, imm := BitVec.ofNat 32 (stackAdj (bits w 7 4) (bits w 3 2) x) }
  | .zcmp_mv =>  -- R369
    { rs1 := sreg (bits w 9 7), rs2 := sreg (bits w 4 2) }
  | .zcmt_jt =>  -- R370
    { imm := zextImm (bits w 9 2) }
  | .r_imm2 =>  -- R371
    { rd := bits w 11 7, rs1 := bits w 19 15, rs2 := bits w 24 20, imm := zextImm (bits w 26 25) }
  | .r2_imm6 =>  -- R372
    { rd := bits w 11 7, rs1 := bits w 19 15, imm := zextImm (bits w 25 20) }
  | .r2_imm5 =>  -- R373
    { rd := bits w 11 7, rs1 := bits w 19 15, imm := zextImm (bits w 24 20) }
  | .r2_immhl =>  -- R374
    { rd := bits w 11 7, rs1 := bits w 19 15, imm := zextImm (bits w 31 26), imm1 := zextImm (bits w 25 20) }

/-- The `spimm` field that gives the adjustment `adj` with this `rlist` (the inverse of R141). -/
def spimmOf (rlist : BitVec 4) (adj : Imm) (x : Xlen) : BitVec 2 :=
  BitVec.ofNat 2 ((adj.toNat - stackBase rlist x) / 16)

/-- The inverse of a codec, for the encoder: the operand fields placed at the positions the codec reads them from, every
other bit 0 (R101 to R103, R106 to R108, R300 to R374). -/
def pack (c : Codec) (x : Xlen) (o : Operands) : Inst :=
  match c with
  | .none => 0
  | .u => slice o.imm 31 12 ++ o.rd ++ 0#7
  | .j => slice o.imm 20 20 ++ slice o.imm 10 1 ++ slice o.imm 11 11 ++ slice o.imm 19 12 ++ o.rd ++ 0#7
  | .i => slice o.imm 11 0 ++ o.rs1 ++ 0#3 ++ o.rd ++ 0#7
  | .i_sh => 0#5 ++ slice o.imm 6 0 ++ o.rs1 ++ 0#3 ++ o.rd ++ 0#7
  | .i_sh5 => 0#7 ++ slice o.imm 4 0 ++ o.rs1 ++ 0#3 ++ o.rd ++ 0#7
  | .i_sh6 => 0#6 ++ slice o.imm 5 0 ++ o.rs1 ++ 0#3 ++ o.rd ++ 0#7
  | .i_csr => o.csr ++ o.rs1 ++ 0#3 ++ o.rd ++ 0#7
  | .i_csri => o.csr ++ slice o.imm 4 0 ++ 0#3 ++ o.rd ++ 0#7
  | .s => slice o.imm 11 5 ++ o.rs2 ++ o.rs1 ++ 0#3 ++ slice o.imm 4 0 ++ 0#7
  | .b => slice o.imm 12 12 ++ slice o.imm 10 5 ++ o.rs2 ++ o.rs1 ++ 0#3 ++ slice o.imm 4 1 ++ slice o.imm 11 11 ++ 0#7
  | .r => 0#7 ++ o.rs2 ++ o.rs1 ++ 0#3 ++ o.rd ++ 0#7
  | .r_m => 0#7 ++ o.rs2 ++ o.rs1 ++ o.rm ++ o.rd ++ 0#7
  | .r2 => 0#12 ++ o.rs1 ++ 0#3 ++ o.rd ++ 0#7
  | .r2_m => 0#12 ++ o.rs1 ++ o.rm ++ o.rd ++ 0#7
  | .r4_m => o.rs3 ++ 0#2 ++ o.rs2 ++ o.rs1 ++ o.rm ++ o.rd ++ 0#7
  | .r_a => 0#5 ++ o.aq ++ o.rl ++ o.rs2 ++ o.rs1 ++ 0#3 ++ o.rd ++ 0#7
  | .r_l => 0#5 ++ o.aq ++ o.rl ++ 0#5 ++ o.rs1 ++ 0#3 ++ o.rd ++ 0#7
  | .r_f => 0#4 ++ o.pred ++ o.succ ++ 0#20
  | .r_s12 => 0#7 ++ o.rs2 ++ o.rs1 ++ 0#15
  | .r_s1 => 0#12 ++ o.rs1 ++ 0#15
  | .k_bs => o.bs ++ 0#5 ++ o.rs2 ++ o.rs1 ++ 0#3 ++ o.rd ++ 0#7
  | .k_rnum => 0#8 ++ o.rnum ++ o.rs1 ++ 0#3 ++ o.rd ++ 0#7
  | .fli => 0#12 ++ slice o.imm 4 0 ++ 0#3 ++ o.rd ++ 0#7
  | .vsetvli => 0#1 ++ o.vzimm ++ o.rs1 ++ 0#3 ++ o.rd ++ 0#7
  | .vsetivli => 0#2 ++ slice o.vzimm 9 0 ++ slice o.imm 4 0 ++ 0#3 ++ o.rd ++ 0#7
  | .v_r => 0#6 ++ o.vm ++ o.rs2 ++ o.rs1 ++ 0#3 ++ o.rd ++ 0#7
  | .v_r2 => 0#6 ++ o.vm ++ o.rs2 ++ 0#8 ++ o.rd ++ 0#7
  | .v_rd => 0#6 ++ o.vm ++ 0#13 ++ o.rd ++ 0#7
  | .v_i => 0#6 ++ o.vm ++ o.rs2 ++ slice o.imm 4 0 ++ 0#3 ++ o.rd ++ 0#7
  | .v_iu => 0#6 ++ o.vm ++ o.rs2 ++ slice o.imm 4 0 ++ 0#3 ++ o.rd ++ 0#7
  | .v_ldst_u => 0#6 ++ o.vm ++ 0#5 ++ o.rs1 ++ 0#3 ++ o.rd ++ 0#7
  | .v_ldst => 0#6 ++ o.vm ++ o.rs2 ++ o.rs1 ++ 0#3 ++ o.rd ++ 0#7
  | .ci_none => 0
  | .ciw_4spn => (0#3 ++ slice o.imm 5 4 ++ slice o.imm 9 6 ++ slice o.imm 2 2 ++ slice o.imm 3 3 ++ slice o.rd 2 0 ++ 0#2 : BitVec 16).setWidth 32
  | .cl_lw => (0#3 ++ slice o.imm 5 3 ++ slice o.rs1 2 0 ++ slice o.imm 2 2 ++ slice o.imm 6 6 ++ slice o.rd 2 0 ++ 0#2 : BitVec 16).setWidth 32
  | .cl_ld => (0#3 ++ slice o.imm 5 3 ++ slice o.rs1 2 0 ++ slice o.imm 7 6 ++ slice o.rd 2 0 ++ 0#2 : BitVec 16).setWidth 32
  | .cl_lq => (0#3 ++ slice o.imm 5 4 ++ slice o.imm 8 8 ++ slice o.rs1 2 0 ++ slice o.imm 7 6 ++ slice o.rd 2 0 ++ 0#2 : BitVec 16).setWidth 32
  | .cs_sw => (0#3 ++ slice o.imm 5 3 ++ slice o.rs1 2 0 ++ slice o.imm 2 2 ++ slice o.imm 6 6 ++ slice o.rs2 2 0 ++ 0#2 : BitVec 16).setWidth 32
  | .cs_sd => (0#3 ++ slice o.imm 5 3 ++ slice o.rs1 2 0 ++ slice o.imm 7 6 ++ slice o.rs2 2 0 ++ 0#2 : BitVec 16).setWidth 32
  | .cs_sq => (0#3 ++ slice o.imm 5 4 ++ slice o.imm 8 8 ++ slice o.rs1 2 0 ++ slice o.imm 7 6 ++ slice o.rs2 2 0 ++ 0#2 : BitVec 16).setWidth 32
  | .ci => (0#3 ++ slice o.imm 5 5 ++ o.rd ++ slice o.imm 4 0 ++ 0#2 : BitVec 16).setWidth 32
  | .ci_li => (0#3 ++ slice o.imm 5 5 ++ o.rd ++ slice o.imm 4 0 ++ 0#2 : BitVec 16).setWidth 32
  | .ci_lui => (0#3 ++ slice o.imm 17 17 ++ o.rd ++ slice o.imm 16 12 ++ 0#2 : BitVec 16).setWidth 32
  | .ci_16sp => (0#3 ++ slice o.imm 9 9 ++ 0#5 ++ slice o.imm 4 4 ++ slice o.imm 6 6 ++ slice o.imm 8 7 ++ slice o.imm 5 5 ++ 0#2 : BitVec 16).setWidth 32
  | .ci_sh => (0#3 ++ slice o.imm 5 5 ++ o.rd ++ slice o.imm 4 0 ++ 0#2 : BitVec 16).setWidth 32
  | .cb_sh => (0#3 ++ slice o.imm 5 5 ++ 0#2 ++ slice o.rd 2 0 ++ slice o.imm 4 0 ++ 0#2 : BitVec 16).setWidth 32
  | .ci_lwsp => (0#3 ++ slice o.imm 5 5 ++ o.rd ++ slice o.imm 4 2 ++ slice o.imm 7 6 ++ 0#2 : BitVec 16).setWidth 32
  | .ci_ldsp => (0#3 ++ slice o.imm 5 5 ++ o.rd ++ slice o.imm 4 3 ++ slice o.imm 8 6 ++ 0#2 : BitVec 16).setWidth 32
  | .ci_lqsp => (0#3 ++ slice o.imm 5 5 ++ o.rd ++ slice o.imm 4 4 ++ slice o.imm 9 6 ++ 0#2 : BitVec 16).setWidth 32
  | .css_swsp => (0#3 ++ slice o.imm 5 2 ++ slice o.imm 7 6 ++ o.rs2 ++ 0#2 : BitVec 16).setWidth 32
  | .css_sdsp => (0#3 ++ slice o.imm 5 3 ++ slice o.imm 8 6 ++ o.rs2 ++ 0#2 : BitVec 16).setWidth 32
  | .css_sqsp => (0#3 ++ slice o.imm 5 4 ++ slice o.imm 9 6 ++ o.rs2 ++ 0#2 : BitVec 16).setWidth 32
  | .cr => (0#4 ++ o.rd ++ o.rs2 ++ 0#2 : BitVec 16).setWidth 32
  | .cr_mv => (0#4 ++ o.rd ++ o.rs1 ++ 0#2 : BitVec 16).setWidth 32
  | .cr_jr => (0#4 ++ o.rs1 ++ 0#7 : BitVec 16).setWidth 32
  | .cr_jalr => (0#4 ++ o.rs1 ++ 0#7 : BitVec 16).setWidth 32
  | .cs => (0#6 ++ slice o.rd 2 0 ++ 0#2 ++ slice o.rs2 2 0 ++ 0#2 : BitVec 16).setWidth 32
  | .cb => (0#3 ++ slice o.imm 8 8 ++ slice o.imm 4 3 ++ slice o.rs1 2 0 ++ slice o.imm 7 6 ++ slice o.imm 2 1 ++ slice o.imm 5 5 ++ 0#2 : BitVec 16).setWidth 32
  | .cb_imm => (0#3 ++ slice o.imm 5 5 ++ 0#2 ++ slice o.rd 2 0 ++ slice o.imm 4 0 ++ 0#2 : BitVec 16).setWidth 32
  | .cj => (0#3 ++ slice o.imm 11 11 ++ slice o.imm 4 4 ++ slice o.imm 9 8 ++ slice o.imm 10 10 ++ slice o.imm 6 6 ++ slice o.imm 7 7 ++ slice o.imm 3 1 ++ slice o.imm 5 5 ++ 0#2 : BitVec 16).setWidth 32
  | .cj_jal => (0#3 ++ slice o.imm 11 11 ++ slice o.imm 4 4 ++ slice o.imm 9 8 ++ slice o.imm 10 10 ++ slice o.imm 6 6 ++ slice o.imm 7 7 ++ slice o.imm 3 1 ++ slice o.imm 5 5 ++ 0#2 : BitVec 16).setWidth 32
  | .zcb_lb => (0#6 ++ slice o.rs1 2 0 ++ slice o.imm 0 0 ++ slice o.imm 1 1 ++ slice o.rd 2 0 ++ 0#2 : BitVec 16).setWidth 32
  | .zcb_lh => (0#6 ++ slice o.rs1 2 0 ++ 0#1 ++ slice o.imm 1 1 ++ slice o.rd 2 0 ++ 0#2 : BitVec 16).setWidth 32
  | .zcb_sb => (0#6 ++ slice o.rs1 2 0 ++ slice o.imm 0 0 ++ slice o.imm 1 1 ++ slice o.rs2 2 0 ++ 0#2 : BitVec 16).setWidth 32
  | .zcb_sh => (0#6 ++ slice o.rs1 2 0 ++ 0#1 ++ slice o.imm 1 1 ++ slice o.rs2 2 0 ++ 0#2 : BitVec 16).setWidth 32
  | .zcb_ext => (0#6 ++ slice o.rd 2 0 ++ 0#7 : BitVec 16).setWidth 32
  | .zcmp_push => (0#8 ++ o.rlist ++ (spimmOf o.rlist (-o.imm) x) ++ 0#2 : BitVec 16).setWidth 32
  | .zcmp_pop => (0#8 ++ o.rlist ++ (spimmOf o.rlist (o.imm) x) ++ 0#2 : BitVec 16).setWidth 32
  | .zcmp_mv => (0#6 ++ slice o.rs1 2 0 ++ 0#2 ++ slice o.rs2 2 0 ++ 0#2 : BitVec 16).setWidth 32
  | .zcmt_jt => (0#6 ++ slice o.imm 7 0 ++ 0#2 : BitVec 16).setWidth 32
  | .r_imm2 => 0#5 ++ slice o.imm 1 0 ++ o.rs2 ++ o.rs1 ++ 0#3 ++ o.rd ++ 0#7
  | .r2_imm6 => 0#6 ++ slice o.imm 5 0 ++ o.rs1 ++ 0#3 ++ o.rd ++ 0#7
  | .r2_imm5 => 0#7 ++ slice o.imm 4 0 ++ o.rs1 ++ 0#3 ++ o.rd ++ 0#7
  | .r2_immhl => slice o.imm 5 0 ++ slice o.imm1 5 0 ++ o.rs1 ++ 0#3 ++ o.rd ++ 0#7

/-- The immediate is the sign-extension of its low `n` bits. -/
def fitsSigned (n : Nat) (i : Imm) : Bool := (i.setWidth n).signExtend 32 == i

/-- The immediate is the zero-extension of its low `n` bits. -/
def fitsUnsigned (n : Nat) (i : Imm) : Bool := (i.setWidth n).setWidth 32 == i

/-- The low `k` bits of the immediate are 0. -/
def aligned (k : Nat) (i : Imm) : Bool := i.setWidth k == 0

/-- A register a primed field can name: x8 to x15 (R139). -/
def isPrimed (r : RegIdx) : Bool := decide (8 ≤ r.toNat ∧ r.toNat ≤ 15)

/-- A register an `sreg` field can name: s0, s1, s2 to s7 (R140). -/
def isSreg (r : RegIdx) : Bool := decide (8 ≤ r.toNat ∧ r.toNat ≤ 9 ∨ 18 ≤ r.toNat ∧ r.toNat ≤ 23)

/-- A value of `shamt_l` (R137). -/
def isShamtL (x : Xlen) (i : Imm) : Bool :=
  if x = .x128 then decide (1 ≤ i.toNat ∧ i.toNat ≤ 64) else decide (i.toNat < 64)

/-- A value of `shamt_r` (R138). -/
def isShamtR (x : Xlen) (i : Imm) : Bool :=
  if x = .x128 then decide (1 ≤ i.toNat ∧ i.toNat < 32 ∨ i.toNat = 64 ∨ 96 ≤ i.toNat ∧ i.toNat < 128)
  else decide (i.toNat < 64)

/-- A value of `stack_adj` for this `rlist` (R141). -/
def isStackAdj (rlist : BitVec 4) (adj : Imm) (x : Xlen) : Bool :=
  adj == BitVec.ofNat 32 (stackAdj rlist (spimmOf rlist adj x) x)

/-- The operand values a codec's extractors can produce in the fields it writes (R300 to R374). -/
def Codec.admits (c : Codec) (x : Xlen) (o : Operands) : Bool :=
  match c with
  | .u => aligned 12 o.imm
  | .j => fitsSigned 21 o.imm && aligned 1 o.imm
  | .i => fitsSigned 12 o.imm
  | .i_sh => decide (o.imm.toNat < x.bits)
  | .i_sh5 => fitsUnsigned 5 o.imm
  | .i_sh6 => fitsUnsigned 6 o.imm
  | .i_csri => fitsUnsigned 5 o.imm
  | .s => fitsSigned 12 o.imm
  | .b => fitsSigned 13 o.imm && aligned 1 o.imm
  | .fli => fitsUnsigned 5 o.imm
  | .vsetivli => fitsUnsigned 5 o.imm && fitsUnsigned 10 (o.vzimm.setWidth 32)
  | .v_i => fitsSigned 5 o.imm
  | .v_iu => fitsUnsigned 5 o.imm
  | .ciw_4spn => isPrimed o.rd && o.rs1 == 2 && fitsUnsigned 10 o.imm && aligned 2 o.imm
  | .cl_lw => isPrimed o.rd && isPrimed o.rs1 && fitsUnsigned 7 o.imm && aligned 2 o.imm
  | .cl_ld => isPrimed o.rd && isPrimed o.rs1 && fitsUnsigned 8 o.imm && aligned 3 o.imm
  | .cl_lq => isPrimed o.rd && isPrimed o.rs1 && fitsUnsigned 9 o.imm && aligned 4 o.imm
  | .cs_sw => isPrimed o.rs1 && isPrimed o.rs2 && fitsUnsigned 7 o.imm && aligned 2 o.imm
  | .cs_sd => isPrimed o.rs1 && isPrimed o.rs2 && fitsUnsigned 8 o.imm && aligned 3 o.imm
  | .cs_sq => isPrimed o.rs1 && isPrimed o.rs2 && fitsUnsigned 9 o.imm && aligned 4 o.imm
  | .ci => fitsSigned 6 o.imm && o.rs1 == o.rd
  | .ci_li => o.rs1 == 0 && fitsSigned 6 o.imm
  | .ci_lui => fitsSigned 18 o.imm && aligned 12 o.imm
  | .ci_16sp => o.rd == 2 && o.rs1 == 2 && fitsSigned 10 o.imm && aligned 4 o.imm
  | .ci_sh => isShamtL x o.imm && o.rs1 == o.rd
  | .cb_sh => isPrimed o.rd && isShamtR x o.imm && o.rs1 == o.rd
  | .ci_lwsp => o.rs1 == 2 && fitsUnsigned 8 o.imm && aligned 2 o.imm
  | .ci_ldsp => o.rs1 == 2 && fitsUnsigned 9 o.imm && aligned 3 o.imm
  | .ci_lqsp => o.rs1 == 2 && fitsUnsigned 10 o.imm && aligned 4 o.imm
  | .css_swsp => o.rs1 == 2 && fitsUnsigned 8 o.imm && aligned 2 o.imm
  | .css_sdsp => o.rs1 == 2 && fitsUnsigned 9 o.imm && aligned 3 o.imm
  | .css_sqsp => o.rs1 == 2 && fitsUnsigned 10 o.imm && aligned 4 o.imm
  | .cr => o.rs1 == o.rd
  | .cr_mv => o.rs2 == 0 && o.imm == 0
  | .cr_jr => o.rd == 0 && o.imm == 0
  | .cr_jalr => o.rd == 1 && o.imm == 0
  | .cs => isPrimed o.rd && isPrimed o.rs2 && o.rs1 == o.rd
  | .cb => isPrimed o.rs1 && o.rs2 == 0 && fitsSigned 9 o.imm && aligned 1 o.imm
  | .cb_imm => isPrimed o.rd && fitsSigned 6 o.imm && o.rs1 == o.rd
  | .cj => o.rd == 0 && fitsSigned 12 o.imm && aligned 1 o.imm
  | .cj_jal => o.rd == 1 && fitsSigned 12 o.imm && aligned 1 o.imm
  | .zcb_lb => isPrimed o.rd && isPrimed o.rs1 && fitsUnsigned 2 o.imm
  | .zcb_lh => isPrimed o.rd && isPrimed o.rs1 && fitsUnsigned 2 o.imm && aligned 1 o.imm
  | .zcb_sb => isPrimed o.rs2 && isPrimed o.rs1 && fitsUnsigned 2 o.imm
  | .zcb_sh => isPrimed o.rs2 && isPrimed o.rs1 && fitsUnsigned 2 o.imm && aligned 1 o.imm
  | .zcb_ext => isPrimed o.rd && o.rs1 == o.rd
  | .zcmp_push => isStackAdj o.rlist (-o.imm) x
  | .zcmp_pop => isStackAdj o.rlist (o.imm) x
  | .zcmp_mv => isSreg o.rs1 && isSreg o.rs2
  | .zcmt_jt => fitsUnsigned 8 o.imm
  | .r_imm2 => fitsUnsigned 2 o.imm
  | .r2_imm6 => fitsUnsigned 6 o.imm
  | .r2_imm5 => fitsUnsigned 5 o.imm
  | .r2_immhl => fitsUnsigned 6 o.imm && fitsUnsigned 6 o.imm1
  | .none | .i_csr | .r | .r_m | .r2 | .r2_m | .r4_m | .r_a | .r_l | .r_f | .r_s12 | .r_s1 | .k_bs | .k_rnum | .vsetvli | .v_r | .v_r2 | .v_rd | .v_ldst_u | .v_ldst | .ci_none => true

/-- The fields a codec writes kept, every other field 0 (R207). -/
def Codec.keep (c : Codec) (o : Operands) : Operands :=
  match c with
  | .none => {}
  | .u => { rd := o.rd, imm := o.imm }
  | .j => { rd := o.rd, imm := o.imm }
  | .i => { rd := o.rd, rs1 := o.rs1, imm := o.imm }
  | .i_sh => { rd := o.rd, rs1 := o.rs1, imm := o.imm }
  | .i_sh5 => { rd := o.rd, rs1 := o.rs1, imm := o.imm }
  | .i_sh6 => { rd := o.rd, rs1 := o.rs1, imm := o.imm }
  | .i_csr => { rd := o.rd, rs1 := o.rs1, csr := o.csr }
  | .i_csri => { rd := o.rd, imm := o.imm, csr := o.csr }
  | .s => { rs1 := o.rs1, rs2 := o.rs2, imm := o.imm }
  | .b => { rs1 := o.rs1, rs2 := o.rs2, imm := o.imm }
  | .r => { rd := o.rd, rs1 := o.rs1, rs2 := o.rs2 }
  | .r_m => { rd := o.rd, rs1 := o.rs1, rs2 := o.rs2, rm := o.rm }
  | .r2 => { rd := o.rd, rs1 := o.rs1 }
  | .r2_m => { rd := o.rd, rs1 := o.rs1, rm := o.rm }
  | .r4_m => { rd := o.rd, rs1 := o.rs1, rs2 := o.rs2, rs3 := o.rs3, rm := o.rm }
  | .r_a => { rd := o.rd, rs1 := o.rs1, rs2 := o.rs2, aq := o.aq, rl := o.rl }
  | .r_l => { rd := o.rd, rs1 := o.rs1, aq := o.aq, rl := o.rl }
  | .r_f => { pred := o.pred, succ := o.succ }
  | .r_s12 => { rs1 := o.rs1, rs2 := o.rs2 }
  | .r_s1 => { rs1 := o.rs1 }
  | .k_bs => { rd := o.rd, rs1 := o.rs1, rs2 := o.rs2, bs := o.bs }
  | .k_rnum => { rd := o.rd, rs1 := o.rs1, rnum := o.rnum }
  | .fli => { rd := o.rd, imm := o.imm }
  | .vsetvli => { rd := o.rd, rs1 := o.rs1, vzimm := o.vzimm }
  | .vsetivli => { rd := o.rd, imm := o.imm, vzimm := o.vzimm }
  | .v_r => { rd := o.rd, rs1 := o.rs1, rs2 := o.rs2, vm := o.vm }
  | .v_r2 => { rd := o.rd, rs2 := o.rs2, vm := o.vm }
  | .v_rd => { rd := o.rd, vm := o.vm }
  | .v_i => { rd := o.rd, rs2 := o.rs2, imm := o.imm, vm := o.vm }
  | .v_iu => { rd := o.rd, rs2 := o.rs2, imm := o.imm, vm := o.vm }
  | .v_ldst_u => { rd := o.rd, rs1 := o.rs1, vm := o.vm }
  | .v_ldst => { rd := o.rd, rs1 := o.rs1, rs2 := o.rs2, vm := o.vm }
  | .ci_none => {}
  | .ciw_4spn => { rd := o.rd, rs1 := o.rs1, imm := o.imm }
  | .cl_lw => { rd := o.rd, rs1 := o.rs1, imm := o.imm }
  | .cl_ld => { rd := o.rd, rs1 := o.rs1, imm := o.imm }
  | .cl_lq => { rd := o.rd, rs1 := o.rs1, imm := o.imm }
  | .cs_sw => { rs1 := o.rs1, rs2 := o.rs2, imm := o.imm }
  | .cs_sd => { rs1 := o.rs1, rs2 := o.rs2, imm := o.imm }
  | .cs_sq => { rs1 := o.rs1, rs2 := o.rs2, imm := o.imm }
  | .ci => { rd := o.rd, rs1 := o.rs1, imm := o.imm }
  | .ci_li => { rd := o.rd, rs1 := o.rs1, imm := o.imm }
  | .ci_lui => { rd := o.rd, imm := o.imm }
  | .ci_16sp => { rd := o.rd, rs1 := o.rs1, imm := o.imm }
  | .ci_sh => { rd := o.rd, rs1 := o.rs1, imm := o.imm }
  | .cb_sh => { rd := o.rd, rs1 := o.rs1, imm := o.imm }
  | .ci_lwsp => { rd := o.rd, rs1 := o.rs1, imm := o.imm }
  | .ci_ldsp => { rd := o.rd, rs1 := o.rs1, imm := o.imm }
  | .ci_lqsp => { rd := o.rd, rs1 := o.rs1, imm := o.imm }
  | .css_swsp => { rs1 := o.rs1, rs2 := o.rs2, imm := o.imm }
  | .css_sdsp => { rs1 := o.rs1, rs2 := o.rs2, imm := o.imm }
  | .css_sqsp => { rs1 := o.rs1, rs2 := o.rs2, imm := o.imm }
  | .cr => { rd := o.rd, rs1 := o.rs1, rs2 := o.rs2 }
  | .cr_mv => { rd := o.rd, rs1 := o.rs1, rs2 := o.rs2, imm := o.imm }
  | .cr_jr => { rd := o.rd, rs1 := o.rs1, imm := o.imm }
  | .cr_jalr => { rd := o.rd, rs1 := o.rs1, imm := o.imm }
  | .cs => { rd := o.rd, rs1 := o.rs1, rs2 := o.rs2 }
  | .cb => { rs1 := o.rs1, rs2 := o.rs2, imm := o.imm }
  | .cb_imm => { rd := o.rd, rs1 := o.rs1, imm := o.imm }
  | .cj => { rd := o.rd, imm := o.imm }
  | .cj_jal => { rd := o.rd, imm := o.imm }
  | .zcb_lb => { rd := o.rd, rs1 := o.rs1, imm := o.imm }
  | .zcb_lh => { rd := o.rd, rs1 := o.rs1, imm := o.imm }
  | .zcb_sb => { rs1 := o.rs1, rs2 := o.rs2, imm := o.imm }
  | .zcb_sh => { rs1 := o.rs1, rs2 := o.rs2, imm := o.imm }
  | .zcb_ext => { rd := o.rd, rs1 := o.rs1 }
  | .zcmp_push => { imm := o.imm, rlist := o.rlist }
  | .zcmp_pop => { imm := o.imm, rlist := o.rlist }
  | .zcmp_mv => { rs1 := o.rs1, rs2 := o.rs2 }
  | .zcmt_jt => { imm := o.imm }
  | .r_imm2 => { rd := o.rd, rs1 := o.rs1, rs2 := o.rs2, imm := o.imm }
  | .r2_imm6 => { rd := o.rd, rs1 := o.rs1, imm := o.imm }
  | .r2_imm5 => { rd := o.rd, rs1 := o.rs1, imm := o.imm }
  | .r2_immhl => { rd := o.rd, rs1 := o.rs1, imm := o.imm, imm1 := o.imm1 }

end Sys2Proof
end

