-- ==== Sys2Proof/Syntax.lean ====
section
/-! DEFINITION. Syntax.lean: the instructions. An instruction is an OPCODE of the catalogs, "one mnemonic within a
catalog" (00_scope.md R15, 10_state.md R39): one constructor for each opcode of spec/opcode_table.json, under its
mnemonic with each dot dropped and the next letter capital (`c.addi4spn` is `cAddi4spn`, `jal.p` is `jalP`). The table's several
rows of one opcode (one per XLEN, as of `slli`) are one constructor. An opcode's OPERANDS are no arguments here: the spec's
trees yield an opcode alone, and its codec then reads the operands off the instruction word (40_pipeline.md R203, R206). -/

namespace Sys2Proof

/-- The opcodes of the three catalogs, `illegal` (id 0 of each) apart: rows of 41 to 47 and the pseudo-opcodes of 48. -/
inductive Instr where
  -- Base integer, M, A, Zicsr, Zifencei, privileged, H, cache-block (41_base_integer)
  | lui  -- R1000 `lui`
  | auipc  -- R1001 `auipc`
  | jal  -- R1002 `jal`
  | jalr  -- R1003 `jalr`
  | beq  -- R1004 `beq`
  | bne  -- R1005 `bne`
  | blt  -- R1006 `blt`
  | bge  -- R1007 `bge`
  | bltu  -- R1008 `bltu`
  | bgeu  -- R1009 `bgeu`
  | lb  -- R1010 `lb`
  | lh  -- R1011 `lh`
  | lw  -- R1012 `lw`
  | ld  -- R1013 `ld`
  | lbu  -- R1014 `lbu`
  | lhu  -- R1015 `lhu`
  | lwu  -- R1016 `lwu`
  | ldu  -- R1017 `ldu`
  | sb  -- R1018 `sb`
  | sh  -- R1019 `sh`
  | sw  -- R1020 `sw`
  | sd  -- R1021 `sd`
  | sq  -- R1022 `sq`
  | addi  -- R1023 `addi`
  | slti  -- R1024 `slti`
  | sltiu  -- R1025 `sltiu`
  | xori  -- R1026 `xori`
  | ori  -- R1027 `ori`
  | andi  -- R1028 `andi`
  | slli  -- R1029 `slli`
  | srli  -- R1030 `srli`
  | srai  -- R1031 `srai`
  | add  -- R1032 `add`
  | sub  -- R1033 `sub`
  | sll  -- R1034 `sll`
  | slt  -- R1035 `slt`
  | sltu  -- R1036 `sltu`
  | xor  -- R1037 `xor`
  | srl  -- R1038 `srl`
  | sra  -- R1039 `sra`
  | or  -- R1040 `or`
  | and  -- R1041 `and`
  | fence  -- R1042 `fence`
  | fenceI  -- R1043 `fence.i`
  | ecall  -- R1044 `ecall`
  | ebreak  -- R1045 `ebreak`
  | addiw  -- R1046 `addiw`
  | slliw  -- R1047 `slliw`
  | srliw  -- R1048 `srliw`
  | sraiw  -- R1049 `sraiw`
  | addw  -- R1050 `addw`
  | subw  -- R1051 `subw`
  | sllw  -- R1052 `sllw`
  | srlw  -- R1053 `srlw`
  | sraw  -- R1054 `sraw`
  | lq  -- R1055 `lq`
  | addid  -- R1056 `addid`
  | sllid  -- R1057 `sllid`
  | srlid  -- R1058 `srlid`
  | sraid  -- R1059 `sraid`
  | addd  -- R1060 `addd`
  | subd  -- R1061 `subd`
  | slld  -- R1062 `slld`
  | srld  -- R1063 `srld`
  | srad  -- R1064 `srad`
  | mul  -- R1065 `mul`
  | mulh  -- R1066 `mulh`
  | mulhsu  -- R1067 `mulhsu`
  | mulhu  -- R1068 `mulhu`
  | div  -- R1069 `div`
  | divu  -- R1070 `divu`
  | rem  -- R1071 `rem`
  | remu  -- R1072 `remu`
  | mulw  -- R1073 `mulw`
  | divw  -- R1074 `divw`
  | divuw  -- R1075 `divuw`
  | remw  -- R1076 `remw`
  | remuw  -- R1077 `remuw`
  | muld  -- R1078 `muld`
  | divd  -- R1079 `divd`
  | divud  -- R1080 `divud`
  | remd  -- R1081 `remd`
  | remud  -- R1082 `remud`
  | lrW  -- R1083 `lr.w`
  | scW  -- R1084 `sc.w`
  | amoaddW  -- R1085 `amoadd.w`
  | amoswapW  -- R1086 `amoswap.w`
  | amoxorW  -- R1087 `amoxor.w`
  | amoorW  -- R1088 `amoor.w`
  | amoandW  -- R1089 `amoand.w`
  | amominW  -- R1090 `amomin.w`
  | amomaxW  -- R1091 `amomax.w`
  | amominuW  -- R1092 `amominu.w`
  | amomaxuW  -- R1093 `amomaxu.w`
  | lrD  -- R1094 `lr.d`
  | scD  -- R1095 `sc.d`
  | amoaddD  -- R1096 `amoadd.d`
  | amoswapD  -- R1097 `amoswap.d`
  | amoxorD  -- R1098 `amoxor.d`
  | amoorD  -- R1099 `amoor.d`
  | amoandD  -- R1100 `amoand.d`
  | amominD  -- R1101 `amomin.d`
  | amomaxD  -- R1102 `amomax.d`
  | amominuD  -- R1103 `amominu.d`
  | amomaxuD  -- R1104 `amomaxu.d`
  | lrQ  -- R1105 `lr.q`
  | scQ  -- R1106 `sc.q`
  | amoaddQ  -- R1107 `amoadd.q`
  | amoswapQ  -- R1108 `amoswap.q`
  | amoxorQ  -- R1109 `amoxor.q`
  | amoorQ  -- R1110 `amoor.q`
  | amoandQ  -- R1111 `amoand.q`
  | amominQ  -- R1112 `amomin.q`
  | amomaxQ  -- R1113 `amomax.q`
  | amominuQ  -- R1114 `amominu.q`
  | amomaxuQ  -- R1115 `amomaxu.q`
  | csrrw  -- R1116 `csrrw`
  | csrrs  -- R1117 `csrrs`
  | csrrc  -- R1118 `csrrc`
  | csrrwi  -- R1119 `csrrwi`
  | csrrsi  -- R1120 `csrrsi`
  | csrrci  -- R1121 `csrrci`
  | uret  -- R1122 `uret`
  | sret  -- R1123 `sret`
  | mret  -- R1124 `mret`
  | dret  -- R1125 `dret`
  | wfi  -- R1126 `wfi`
  | sfenceWInval  -- R1127 `sfence.w.inval`
  | sfenceInvalIr  -- R1128 `sfence.inval.ir`
  | sfenceVma  -- R1129 `sfence.vma`
  | sinvalVma  -- R1130 `sinval.vma`
  | hfenceVvma  -- R1131 `hfence.vvma`
  | hfenceGvma  -- R1132 `hfence.gvma`
  | hinvalVvma  -- R1133 `hinval.vvma`
  | hinvalGvma  -- R1134 `hinval.gvma`
  | hlvB  -- R1135 `hlv.b`
  | hlvBu  -- R1136 `hlv.bu`
  | hlvH  -- R1137 `hlv.h`
  | hlvHu  -- R1138 `hlv.hu`
  | hlvxHu  -- R1139 `hlvx.hu`
  | hlvW  -- R1140 `hlv.w`
  | hlvxWu  -- R1141 `hlvx.wu`
  | hlvWu  -- R1142 `hlv.wu`
  | hlvD  -- R1143 `hlv.d`
  | hsvB  -- R1144 `hsv.b`
  | hsvH  -- R1145 `hsv.h`
  | hsvW  -- R1146 `hsv.w`
  | hsvD  -- R1147 `hsv.d`
  | cboInval  -- R1148 `cbo.inval`
  | cboClean  -- R1149 `cbo.clean`
  | cboFlush  -- R1150 `cbo.flush`
  | cboZero  -- R1151 `cbo.zero`
  -- Floating point (42_float)
  | flh  -- R2000 `flh`
  | flw  -- R2001 `flw`
  | fld  -- R2002 `fld`
  | flq  -- R2003 `flq`
  | fsh  -- R2004 `fsh`
  | fsw  -- R2005 `fsw`
  | fsd  -- R2006 `fsd`
  | fsq  -- R2007 `fsq`
  | fmaddS  -- R2008 `fmadd.s`
  | fmsubS  -- R2009 `fmsub.s`
  | fnmsubS  -- R2010 `fnmsub.s`
  | fnmaddS  -- R2011 `fnmadd.s`
  | faddS  -- R2012 `fadd.s`
  | fsubS  -- R2013 `fsub.s`
  | fmulS  -- R2014 `fmul.s`
  | fdivS  -- R2015 `fdiv.s`
  | fsqrtS  -- R2016 `fsqrt.s`
  | fsgnjS  -- R2017 `fsgnj.s`
  | fsgnjnS  -- R2018 `fsgnjn.s`
  | fsgnjxS  -- R2019 `fsgnjx.s`
  | fminS  -- R2020 `fmin.s`
  | fmaxS  -- R2021 `fmax.s`
  | fcvtSD  -- R2022 `fcvt.s.d`
  | fcvtSH  -- R2023 `fcvt.s.h`
  | fcvtSQ  -- R2024 `fcvt.s.q`
  | feqS  -- R2025 `feq.s`
  | fltS  -- R2026 `flt.s`
  | fleS  -- R2027 `fle.s`
  | fclassS  -- R2028 `fclass.s`
  | fcvtWS  -- R2029 `fcvt.w.s`
  | fcvtSW  -- R2030 `fcvt.s.w`
  | fcvtWuS  -- R2031 `fcvt.wu.s`
  | fcvtSWu  -- R2032 `fcvt.s.wu`
  | fcvtLS  -- R2033 `fcvt.l.s`
  | fcvtSL  -- R2034 `fcvt.s.l`
  | fcvtLuS  -- R2035 `fcvt.lu.s`
  | fcvtSLu  -- R2036 `fcvt.s.lu`
  | fliS  -- R2037 `fli.s`
  | fminmS  -- R2038 `fminm.s`
  | fmaxmS  -- R2039 `fmaxm.s`
  | froundS  -- R2040 `fround.s`
  | froundnxS  -- R2041 `froundnx.s`
  | fleqS  -- R2042 `fleq.s`
  | fltqS  -- R2043 `fltq.s`
  | fmaddD  -- R2044 `fmadd.d`
  | fmsubD  -- R2045 `fmsub.d`
  | fnmsubD  -- R2046 `fnmsub.d`
  | fnmaddD  -- R2047 `fnmadd.d`
  | faddD  -- R2048 `fadd.d`
  | fsubD  -- R2049 `fsub.d`
  | fmulD  -- R2050 `fmul.d`
  | fdivD  -- R2051 `fdiv.d`
  | fsqrtD  -- R2052 `fsqrt.d`
  | fsgnjD  -- R2053 `fsgnj.d`
  | fsgnjnD  -- R2054 `fsgnjn.d`
  | fsgnjxD  -- R2055 `fsgnjx.d`
  | fminD  -- R2056 `fmin.d`
  | fmaxD  -- R2057 `fmax.d`
  | fcvtDS  -- R2058 `fcvt.d.s`
  | fcvtDH  -- R2059 `fcvt.d.h`
  | fcvtDQ  -- R2060 `fcvt.d.q`
  | feqD  -- R2061 `feq.d`
  | fltD  -- R2062 `flt.d`
  | fleD  -- R2063 `fle.d`
  | fclassD  -- R2064 `fclass.d`
  | fcvtWD  -- R2065 `fcvt.w.d`
  | fcvtDW  -- R2066 `fcvt.d.w`
  | fcvtWuD  -- R2067 `fcvt.wu.d`
  | fcvtDWu  -- R2068 `fcvt.d.wu`
  | fcvtLD  -- R2069 `fcvt.l.d`
  | fcvtDL  -- R2070 `fcvt.d.l`
  | fcvtLuD  -- R2071 `fcvt.lu.d`
  | fcvtDLu  -- R2072 `fcvt.d.lu`
  | fliD  -- R2073 `fli.d`
  | fminmD  -- R2074 `fminm.d`
  | fmaxmD  -- R2075 `fmaxm.d`
  | froundD  -- R2076 `fround.d`
  | froundnxD  -- R2077 `froundnx.d`
  | fleqD  -- R2078 `fleq.d`
  | fltqD  -- R2079 `fltq.d`
  | fmaddH  -- R2080 `fmadd.h`
  | fmsubH  -- R2081 `fmsub.h`
  | fnmsubH  -- R2082 `fnmsub.h`
  | fnmaddH  -- R2083 `fnmadd.h`
  | faddH  -- R2084 `fadd.h`
  | fsubH  -- R2085 `fsub.h`
  | fmulH  -- R2086 `fmul.h`
  | fdivH  -- R2087 `fdiv.h`
  | fsqrtH  -- R2088 `fsqrt.h`
  | fsgnjH  -- R2089 `fsgnj.h`
  | fsgnjnH  -- R2090 `fsgnjn.h`
  | fsgnjxH  -- R2091 `fsgnjx.h`
  | fminH  -- R2092 `fmin.h`
  | fmaxH  -- R2093 `fmax.h`
  | fcvtHS  -- R2094 `fcvt.h.s`
  | fcvtHD  -- R2095 `fcvt.h.d`
  | fcvtHQ  -- R2096 `fcvt.h.q`
  | feqH  -- R2097 `feq.h`
  | fltH  -- R2098 `flt.h`
  | fleH  -- R2099 `fle.h`
  | fclassH  -- R2100 `fclass.h`
  | fcvtWH  -- R2101 `fcvt.w.h`
  | fcvtHW  -- R2102 `fcvt.h.w`
  | fcvtWuH  -- R2103 `fcvt.wu.h`
  | fcvtHWu  -- R2104 `fcvt.h.wu`
  | fcvtLH  -- R2105 `fcvt.l.h`
  | fcvtHL  -- R2106 `fcvt.h.l`
  | fcvtLuH  -- R2107 `fcvt.lu.h`
  | fcvtHLu  -- R2108 `fcvt.h.lu`
  | fliH  -- R2109 `fli.h`
  | fminmH  -- R2110 `fminm.h`
  | fmaxmH  -- R2111 `fmaxm.h`
  | froundH  -- R2112 `fround.h`
  | froundnxH  -- R2113 `froundnx.h`
  | fleqH  -- R2114 `fleq.h`
  | fltqH  -- R2115 `fltq.h`
  | fmaddQ  -- R2116 `fmadd.q`
  | fmsubQ  -- R2117 `fmsub.q`
  | fnmsubQ  -- R2118 `fnmsub.q`
  | fnmaddQ  -- R2119 `fnmadd.q`
  | faddQ  -- R2120 `fadd.q`
  | fsubQ  -- R2121 `fsub.q`
  | fmulQ  -- R2122 `fmul.q`
  | fdivQ  -- R2123 `fdiv.q`
  | fsqrtQ  -- R2124 `fsqrt.q`
  | fsgnjQ  -- R2125 `fsgnj.q`
  | fsgnjnQ  -- R2126 `fsgnjn.q`
  | fsgnjxQ  -- R2127 `fsgnjx.q`
  | fminQ  -- R2128 `fmin.q`
  | fmaxQ  -- R2129 `fmax.q`
  | fcvtQS  -- R2130 `fcvt.q.s`
  | fcvtQD  -- R2131 `fcvt.q.d`
  | fcvtQH  -- R2132 `fcvt.q.h`
  | feqQ  -- R2133 `feq.q`
  | fltQ  -- R2134 `flt.q`
  | fleQ  -- R2135 `fle.q`
  | fclassQ  -- R2136 `fclass.q`
  | fcvtWQ  -- R2137 `fcvt.w.q`
  | fcvtQW  -- R2138 `fcvt.q.w`
  | fcvtWuQ  -- R2139 `fcvt.wu.q`
  | fcvtQWu  -- R2140 `fcvt.q.wu`
  | fcvtLQ  -- R2141 `fcvt.l.q`
  | fcvtQL  -- R2142 `fcvt.q.l`
  | fcvtLuQ  -- R2143 `fcvt.lu.q`
  | fcvtQLu  -- R2144 `fcvt.q.lu`
  | fliQ  -- R2145 `fli.q`
  | fminmQ  -- R2146 `fminm.q`
  | fmaxmQ  -- R2147 `fmaxm.q`
  | froundQ  -- R2148 `fround.q`
  | froundnxQ  -- R2149 `froundnx.q`
  | fleqQ  -- R2150 `fleq.q`
  | fltqQ  -- R2151 `fltq.q`
  | fmvXW  -- R2152 `fmv.x.w`
  | fmvXD  -- R2153 `fmv.x.d`
  | fmvXH  -- R2154 `fmv.x.h`
  | fmvWX  -- R2155 `fmv.w.x`
  | fmvDX  -- R2156 `fmv.d.x`
  | fmvHX  -- R2157 `fmv.h.x`
  | fcvtmodWD  -- R2158 `fcvtmod.w.d`
  | fmvhXD  -- R2159 `fmvh.x.d`
  | fmvpDX  -- R2160 `fmvp.d.x`
  | fmvhXQ  -- R2161 `fmvh.x.q`
  | fmvpQX  -- R2162 `fmvp.q.x`
  -- Bit manipulation and scalar crypto (43_bitmanip_crypto)
  | sh1add  -- R3000 `sh1add`
  | sh2add  -- R3001 `sh2add`
  | sh3add  -- R3002 `sh3add`
  | addUw  -- R3003 `add.uw`
  | sh1addUw  -- R3004 `sh1add.uw`
  | sh2addUw  -- R3005 `sh2add.uw`
  | sh3addUw  -- R3006 `sh3add.uw`
  | slliUw  -- R3007 `slli.uw`
  | andn  -- R3008 `andn`
  | orn  -- R3009 `orn`
  | xnor  -- R3010 `xnor`
  | clz  -- R3011 `clz`
  | ctz  -- R3012 `ctz`
  | cpop  -- R3013 `cpop`
  | sextB  -- R3014 `sext.b`
  | sextH  -- R3015 `sext.h`
  | max  -- R3016 `max`
  | maxu  -- R3017 `maxu`
  | min  -- R3018 `min`
  | minu  -- R3019 `minu`
  | rol  -- R3020 `rol`
  | ror  -- R3021 `ror`
  | rori  -- R3022 `rori`
  | orcB  -- R3023 `orc.b`
  | rev8  -- R3024 `rev8`
  | zextH  -- R3025 `zext.h`
  | clzw  -- R3026 `clzw`
  | ctzw  -- R3027 `ctzw`
  | cpopw  -- R3028 `cpopw`
  | rolw  -- R3029 `rolw`
  | rorw  -- R3030 `rorw`
  | roriw  -- R3031 `roriw`
  | clmul  -- R3032 `clmul`
  | clmulr  -- R3033 `clmulr`
  | clmulh  -- R3034 `clmulh`
  | bclr  -- R3035 `bclr`
  | bext  -- R3036 `bext`
  | binv  -- R3037 `binv`
  | bset  -- R3038 `bset`
  | bclri  -- R3039 `bclri`
  | bexti  -- R3040 `bexti`
  | binvi  -- R3041 `binvi`
  | bseti  -- R3042 `bseti`
  | pack  -- R3043 `pack`
  | packh  -- R3044 `packh`
  | packw  -- R3045 `packw`
  | brev8  -- R3046 `brev8`
  | zip  -- R3047 `zip`
  | unzip  -- R3048 `unzip`
  | xperm4  -- R3049 `xperm4`
  | xperm8  -- R3050 `xperm8`
  | czeroEqz  -- R3051 `czero.eqz`
  | czeroNez  -- R3052 `czero.nez`
  | aes32esi  -- R3053 `aes32esi`
  | aes32esmi  -- R3054 `aes32esmi`
  | aes32dsi  -- R3055 `aes32dsi`
  | aes32dsmi  -- R3056 `aes32dsmi`
  | sm4ed  -- R3057 `sm4ed`
  | sm4ks  -- R3058 `sm4ks`
  | aes64es  -- R3059 `aes64es`
  | aes64esm  -- R3060 `aes64esm`
  | aes64ds  -- R3061 `aes64ds`
  | aes64dsm  -- R3062 `aes64dsm`
  | aes64ks2  -- R3063 `aes64ks2`
  | aes64im  -- R3064 `aes64im`
  | aes64ks1i  -- R3065 `aes64ks1i`
  | sha256sum0  -- R3066 `sha256sum0`
  | sha256sum1  -- R3067 `sha256sum1`
  | sha256sig0  -- R3068 `sha256sig0`
  | sha256sig1  -- R3069 `sha256sig1`
  | sha512sum0  -- R3070 `sha512sum0`
  | sha512sum1  -- R3071 `sha512sum1`
  | sha512sig0  -- R3072 `sha512sig0`
  | sha512sig1  -- R3073 `sha512sig1`
  | sha512sum0r  -- R3074 `sha512sum0r`
  | sha512sum1r  -- R3075 `sha512sum1r`
  | sha512sig0l  -- R3076 `sha512sig0l`
  | sha512sig1l  -- R3077 `sha512sig1l`
  | sha512sig0h  -- R3078 `sha512sig0h`
  | sha512sig1h  -- R3079 `sha512sig1h`
  | sm3p0  -- R3080 `sm3p0`
  | sm3p1  -- R3081 `sm3p1`
  -- Compressed (44_compressed)
  | cAddi4spn  -- R4000 `c.addi4spn`
  | cFld  -- R4001 `c.fld`
  | cLq  -- R4002 `c.lq`
  | cLw  -- R4003 `c.lw`
  | cFlw  -- R4004 `c.flw`
  | cLd  -- R4005 `c.ld`
  | cLbu  -- R4006 `c.lbu`
  | cLhu  -- R4007 `c.lhu`
  | cLh  -- R4008 `c.lh`
  | cSb  -- R4009 `c.sb`
  | cSh  -- R4010 `c.sh`
  | cFsd  -- R4011 `c.fsd`
  | cSq  -- R4012 `c.sq`
  | cSw  -- R4013 `c.sw`
  | cFsw  -- R4014 `c.fsw`
  | cSd  -- R4015 `c.sd`
  | cNop  -- R4016 `c.nop`
  | cAddi  -- R4017 `c.addi`
  | cJal  -- R4018 `c.jal`
  | cAddiw  -- R4019 `c.addiw`
  | cLi  -- R4020 `c.li`
  | cAddi16sp  -- R4021 `c.addi16sp`
  | cLui  -- R4022 `c.lui`
  | cSrli  -- R4023 `c.srli`
  | cSrai  -- R4024 `c.srai`
  | cAndi  -- R4025 `c.andi`
  | cSub  -- R4026 `c.sub`
  | cXor  -- R4027 `c.xor`
  | cOr  -- R4028 `c.or`
  | cAnd  -- R4029 `c.and`
  | cSubw  -- R4030 `c.subw`
  | cAddw  -- R4031 `c.addw`
  | cMul  -- R4032 `c.mul`
  | cZextB  -- R4033 `c.zext.b`
  | cSextB  -- R4034 `c.sext.b`
  | cZextH  -- R4035 `c.zext.h`
  | cSextH  -- R4036 `c.sext.h`
  | cZextW  -- R4037 `c.zext.w`
  | cNot  -- R4038 `c.not`
  | cJ  -- R4039 `c.j`
  | cBeqz  -- R4040 `c.beqz`
  | cBnez  -- R4041 `c.bnez`
  | cSlli  -- R4042 `c.slli`
  | cFldsp  -- R4043 `c.fldsp`
  | cLqsp  -- R4044 `c.lqsp`
  | cLwsp  -- R4045 `c.lwsp`
  | cFlwsp  -- R4046 `c.flwsp`
  | cLdsp  -- R4047 `c.ldsp`
  | cJr  -- R4048 `c.jr`
  | cMv  -- R4049 `c.mv`
  | cEbreak  -- R4050 `c.ebreak`
  | cJalr  -- R4051 `c.jalr`
  | cAdd  -- R4052 `c.add`
  | cFsdsp  -- R4053 `c.fsdsp`
  | cSqsp  -- R4054 `c.sqsp`
  | cSwsp  -- R4055 `c.swsp`
  | cFswsp  -- R4056 `c.fswsp`
  | cSdsp  -- R4057 `c.sdsp`
  | cmPush  -- R4058 `cm.push`
  | cmPop  -- R4059 `cm.pop`
  | cmPopretz  -- R4060 `cm.popretz`
  | cmPopret  -- R4061 `cm.popret`
  | cmMvsa01  -- R4062 `cm.mvsa01`
  | cmMva01s  -- R4063 `cm.mva01s`
  | cmJt  -- R4064 `cm.jt`
  | cmJalt  -- R4065 `cm.jalt`
  -- Vector arithmetic (45_vector_arith)
  | vsetvli  -- R5000 `vsetvli`
  | vsetivli  -- R5001 `vsetivli`
  | vsetvl  -- R5002 `vsetvl`
  | vaddVv  -- R5003 `vadd.vv`
  | vaddVx  -- R5004 `vadd.vx`
  | vaddVi  -- R5005 `vadd.vi`
  | vsubVv  -- R5006 `vsub.vv`
  | vsubVx  -- R5007 `vsub.vx`
  | vrsubVx  -- R5008 `vrsub.vx`
  | vrsubVi  -- R5009 `vrsub.vi`
  | vminuVv  -- R5010 `vminu.vv`
  | vminuVx  -- R5011 `vminu.vx`
  | vminVv  -- R5012 `vmin.vv`
  | vminVx  -- R5013 `vmin.vx`
  | vmaxuVv  -- R5014 `vmaxu.vv`
  | vmaxuVx  -- R5015 `vmaxu.vx`
  | vmaxVv  -- R5016 `vmax.vv`
  | vmaxVx  -- R5017 `vmax.vx`
  | vandVv  -- R5018 `vand.vv`
  | vandVx  -- R5019 `vand.vx`
  | vandVi  -- R5020 `vand.vi`
  | vorVv  -- R5021 `vor.vv`
  | vorVx  -- R5022 `vor.vx`
  | vorVi  -- R5023 `vor.vi`
  | vxorVv  -- R5024 `vxor.vv`
  | vxorVx  -- R5025 `vxor.vx`
  | vxorVi  -- R5026 `vxor.vi`
  | vrgatherVv  -- R5027 `vrgather.vv`
  | vrgatherVx  -- R5028 `vrgather.vx`
  | vrgatherVi  -- R5029 `vrgather.vi`
  | vslidedownVx  -- R5030 `vslidedown.vx`
  | vslidedownVi  -- R5031 `vslidedown.vi`
  | vmseqVv  -- R5032 `vmseq.vv`
  | vmseqVx  -- R5033 `vmseq.vx`
  | vmseqVi  -- R5034 `vmseq.vi`
  | vmsneVv  -- R5035 `vmsne.vv`
  | vmsneVx  -- R5036 `vmsne.vx`
  | vmsneVi  -- R5037 `vmsne.vi`
  | vmsltuVv  -- R5038 `vmsltu.vv`
  | vmsltuVx  -- R5039 `vmsltu.vx`
  | vmsltVv  -- R5040 `vmslt.vv`
  | vmsltVx  -- R5041 `vmslt.vx`
  | vmsleuVv  -- R5042 `vmsleu.vv`
  | vmsleuVx  -- R5043 `vmsleu.vx`
  | vmsleuVi  -- R5044 `vmsleu.vi`
  | vmsleVv  -- R5045 `vmsle.vv`
  | vmsleVx  -- R5046 `vmsle.vx`
  | vmsleVi  -- R5047 `vmsle.vi`
  | vmsgtuVx  -- R5048 `vmsgtu.vx`
  | vmsgtuVi  -- R5049 `vmsgtu.vi`
  | vmsgtVx  -- R5050 `vmsgt.vx`
  | vmsgtVi  -- R5051 `vmsgt.vi`
  | vsadduVv  -- R5052 `vsaddu.vv`
  | vsadduVx  -- R5053 `vsaddu.vx`
  | vsadduVi  -- R5054 `vsaddu.vi`
  | vsaddVv  -- R5055 `vsadd.vv`
  | vsaddVx  -- R5056 `vsadd.vx`
  | vsaddVi  -- R5057 `vsadd.vi`
  | vssubuVv  -- R5058 `vssubu.vv`
  | vssubuVx  -- R5059 `vssubu.vx`
  | vssubVv  -- R5060 `vssub.vv`
  | vssubVx  -- R5061 `vssub.vx`
  | vsllVv  -- R5062 `vsll.vv`
  | vsllVx  -- R5063 `vsll.vx`
  | vsllVi  -- R5064 `vsll.vi`
  | vsmulVv  -- R5065 `vsmul.vv`
  | vsmulVx  -- R5066 `vsmul.vx`
  | vsrlVv  -- R5067 `vsrl.vv`
  | vsrlVx  -- R5068 `vsrl.vx`
  | vsrlVi  -- R5069 `vsrl.vi`
  | vsraVv  -- R5070 `vsra.vv`
  | vsraVx  -- R5071 `vsra.vx`
  | vsraVi  -- R5072 `vsra.vi`
  | vssrlVv  -- R5073 `vssrl.vv`
  | vssrlVx  -- R5074 `vssrl.vx`
  | vssrlVi  -- R5075 `vssrl.vi`
  | vssraVv  -- R5076 `vssra.vv`
  | vssraVx  -- R5077 `vssra.vx`
  | vssraVi  -- R5078 `vssra.vi`
  | vnsrlWv  -- R5079 `vnsrl.wv`
  | vnsrlWx  -- R5080 `vnsrl.wx`
  | vnsrlWi  -- R5081 `vnsrl.wi`
  | vnsraWv  -- R5082 `vnsra.wv`
  | vnsraWx  -- R5083 `vnsra.wx`
  | vnsraWi  -- R5084 `vnsra.wi`
  | vnclipuWv  -- R5085 `vnclipu.wv`
  | vnclipuWx  -- R5086 `vnclipu.wx`
  | vnclipuWi  -- R5087 `vnclipu.wi`
  | vnclipWv  -- R5088 `vnclip.wv`
  | vnclipWx  -- R5089 `vnclip.wx`
  | vnclipWi  -- R5090 `vnclip.wi`
  | vrgatherei16Vv  -- R5091 `vrgatherei16.vv`
  | vslideupVx  -- R5092 `vslideup.vx`
  | vslideupVi  -- R5093 `vslideup.vi`
  | vadcVvm  -- R5094 `vadc.vvm`
  | vadcVxm  -- R5095 `vadc.vxm`
  | vadcVim  -- R5096 `vadc.vim`
  | vmadcVvm  -- R5097 `vmadc.vvm`
  | vmadcVxm  -- R5098 `vmadc.vxm`
  | vmadcVim  -- R5099 `vmadc.vim`
  | vmadcVv  -- R5100 `vmadc.vv`
  | vmadcVx  -- R5101 `vmadc.vx`
  | vmadcVi  -- R5102 `vmadc.vi`
  | vsbcVvm  -- R5103 `vsbc.vvm`
  | vsbcVxm  -- R5104 `vsbc.vxm`
  | vmsbcVvm  -- R5105 `vmsbc.vvm`
  | vmsbcVxm  -- R5106 `vmsbc.vxm`
  | vmsbcVv  -- R5107 `vmsbc.vv`
  | vmsbcVx  -- R5108 `vmsbc.vx`
  | vmergeVvm  -- R5109 `vmerge.vvm`
  | vmergeVxm  -- R5110 `vmerge.vxm`
  | vmergeVim  -- R5111 `vmerge.vim`
  | vmvVV  -- R5112 `vmv.v.v`
  | vmvVX  -- R5113 `vmv.v.x`
  | vmvVI  -- R5114 `vmv.v.i`
  | vmv1rV  -- R5115 `vmv1r.v`
  | vmv2rV  -- R5116 `vmv2r.v`
  | vmv4rV  -- R5117 `vmv4r.v`
  | vmv8rV  -- R5118 `vmv8r.v`
  | vwredsumuVs  -- R5119 `vwredsumu.vs`
  | vwredsumVs  -- R5120 `vwredsum.vs`
  | vredsumVs  -- R5121 `vredsum.vs`
  | vredandVs  -- R5122 `vredand.vs`
  | vredorVs  -- R5123 `vredor.vs`
  | vredxorVs  -- R5124 `vredxor.vs`
  | vredminuVs  -- R5125 `vredminu.vs`
  | vredminVs  -- R5126 `vredmin.vs`
  | vredmaxuVs  -- R5127 `vredmaxu.vs`
  | vredmaxVs  -- R5128 `vredmax.vs`
  | vaadduVv  -- R5129 `vaaddu.vv`
  | vaadduVx  -- R5130 `vaaddu.vx`
  | vaaddVv  -- R5131 `vaadd.vv`
  | vaaddVx  -- R5132 `vaadd.vx`
  | vasubuVv  -- R5133 `vasubu.vv`
  | vasubuVx  -- R5134 `vasubu.vx`
  | vasubVv  -- R5135 `vasub.vv`
  | vasubVx  -- R5136 `vasub.vx`
  | vdivuVv  -- R5137 `vdivu.vv`
  | vdivuVx  -- R5138 `vdivu.vx`
  | vdivVv  -- R5139 `vdiv.vv`
  | vdivVx  -- R5140 `vdiv.vx`
  | vremuVv  -- R5141 `vremu.vv`
  | vremuVx  -- R5142 `vremu.vx`
  | vremVv  -- R5143 `vrem.vv`
  | vremVx  -- R5144 `vrem.vx`
  | vmulhuVv  -- R5145 `vmulhu.vv`
  | vmulhuVx  -- R5146 `vmulhu.vx`
  | vmulVv  -- R5147 `vmul.vv`
  | vmulVx  -- R5148 `vmul.vx`
  | vmulhsuVv  -- R5149 `vmulhsu.vv`
  | vmulhsuVx  -- R5150 `vmulhsu.vx`
  | vmulhVv  -- R5151 `vmulh.vv`
  | vmulhVx  -- R5152 `vmulh.vx`
  | vmaddVv  -- R5153 `vmadd.vv`
  | vmaddVx  -- R5154 `vmadd.vx`
  | vnmsubVv  -- R5155 `vnmsub.vv`
  | vnmsubVx  -- R5156 `vnmsub.vx`
  | vmaccVv  -- R5157 `vmacc.vv`
  | vmaccVx  -- R5158 `vmacc.vx`
  | vnmsacVv  -- R5159 `vnmsac.vv`
  | vnmsacVx  -- R5160 `vnmsac.vx`
  | vwadduVv  -- R5161 `vwaddu.vv`
  | vwadduVx  -- R5162 `vwaddu.vx`
  | vwaddVv  -- R5163 `vwadd.vv`
  | vwaddVx  -- R5164 `vwadd.vx`
  | vwsubuVv  -- R5165 `vwsubu.vv`
  | vwsubuVx  -- R5166 `vwsubu.vx`
  | vwsubVv  -- R5167 `vwsub.vv`
  | vwsubVx  -- R5168 `vwsub.vx`
  | vwmuluVv  -- R5169 `vwmulu.vv`
  | vwmuluVx  -- R5170 `vwmulu.vx`
  | vwmulsuVv  -- R5171 `vwmulsu.vv`
  | vwmulsuVx  -- R5172 `vwmulsu.vx`
  | vwmulVv  -- R5173 `vwmul.vv`
  | vwmulVx  -- R5174 `vwmul.vx`
  | vwmaccuVv  -- R5175 `vwmaccu.vv`
  | vwmaccuVx  -- R5176 `vwmaccu.vx`
  | vwmaccVv  -- R5177 `vwmacc.vv`
  | vwmaccVx  -- R5178 `vwmacc.vx`
  | vwmaccusVx  -- R5179 `vwmaccus.vx`
  | vwmaccsuVv  -- R5180 `vwmaccsu.vv`
  | vwmaccsuVx  -- R5181 `vwmaccsu.vx`
  | vwadduWv  -- R5182 `vwaddu.wv`
  | vwadduWx  -- R5183 `vwaddu.wx`
  | vwaddWv  -- R5184 `vwadd.wv`
  | vwaddWx  -- R5185 `vwadd.wx`
  | vwsubuWv  -- R5186 `vwsubu.wv`
  | vwsubuWx  -- R5187 `vwsubu.wx`
  | vwsubWv  -- R5188 `vwsub.wv`
  | vwsubWx  -- R5189 `vwsub.wx`
  | vslide1upVx  -- R5190 `vslide1up.vx`
  | vslide1downVx  -- R5191 `vslide1down.vx`
  | vmvXS  -- R5192 `vmv.x.s`
  | vcpopM  -- R5193 `vcpop.m`
  | vfirstM  -- R5194 `vfirst.m`
  | vmvSX  -- R5195 `vmv.s.x`
  | vzextVf8  -- R5196 `vzext.vf8`
  | vsextVf8  -- R5197 `vsext.vf8`
  | vzextVf4  -- R5198 `vzext.vf4`
  | vsextVf4  -- R5199 `vsext.vf4`
  | vzextVf2  -- R5200 `vzext.vf2`
  | vsextVf2  -- R5201 `vsext.vf2`
  | vmsbfM  -- R5202 `vmsbf.m`
  | vmsofM  -- R5203 `vmsof.m`
  | vmsifM  -- R5204 `vmsif.m`
  | viotaM  -- R5205 `viota.m`
  | vidV  -- R5206 `vid.v`
  | vcompressVm  -- R5207 `vcompress.vm`
  | vmandnMm  -- R5208 `vmandn.mm`
  | vmandMm  -- R5209 `vmand.mm`
  | vmorMm  -- R5210 `vmor.mm`
  | vmxorMm  -- R5211 `vmxor.mm`
  | vmornMm  -- R5212 `vmorn.mm`
  | vmnandMm  -- R5213 `vmnand.mm`
  | vmnorMm  -- R5214 `vmnor.mm`
  | vmxnorMm  -- R5215 `vmxnor.mm`
  | vfaddVv  -- R5216 `vfadd.vv`
  | vfaddVf  -- R5217 `vfadd.vf`
  | vfsubVv  -- R5218 `vfsub.vv`
  | vfsubVf  -- R5219 `vfsub.vf`
  | vfminVv  -- R5220 `vfmin.vv`
  | vfminVf  -- R5221 `vfmin.vf`
  | vfmaxVv  -- R5222 `vfmax.vv`
  | vfmaxVf  -- R5223 `vfmax.vf`
  | vfsgnjVv  -- R5224 `vfsgnj.vv`
  | vfsgnjVf  -- R5225 `vfsgnj.vf`
  | vfsgnjnVv  -- R5226 `vfsgnjn.vv`
  | vfsgnjnVf  -- R5227 `vfsgnjn.vf`
  | vfsgnjxVv  -- R5228 `vfsgnjx.vv`
  | vfsgnjxVf  -- R5229 `vfsgnjx.vf`
  | vfslide1upVf  -- R5230 `vfslide1up.vf`
  | vfslide1downVf  -- R5231 `vfslide1down.vf`
  | vmfeqVv  -- R5232 `vmfeq.vv`
  | vmfeqVf  -- R5233 `vmfeq.vf`
  | vmfleVv  -- R5234 `vmfle.vv`
  | vmfleVf  -- R5235 `vmfle.vf`
  | vmfltVv  -- R5236 `vmflt.vv`
  | vmfltVf  -- R5237 `vmflt.vf`
  | vmfneVv  -- R5238 `vmfne.vv`
  | vmfneVf  -- R5239 `vmfne.vf`
  | vmfgtVf  -- R5240 `vmfgt.vf`
  | vmfgeVf  -- R5241 `vmfge.vf`
  | vfdivVv  -- R5242 `vfdiv.vv`
  | vfdivVf  -- R5243 `vfdiv.vf`
  | vfrdivVf  -- R5244 `vfrdiv.vf`
  | vfmulVv  -- R5245 `vfmul.vv`
  | vfmulVf  -- R5246 `vfmul.vf`
  | vfrsubVf  -- R5247 `vfrsub.vf`
  | vfmaddVv  -- R5248 `vfmadd.vv`
  | vfmaddVf  -- R5249 `vfmadd.vf`
  | vfnmaddVv  -- R5250 `vfnmadd.vv`
  | vfnmaddVf  -- R5251 `vfnmadd.vf`
  | vfmsubVv  -- R5252 `vfmsub.vv`
  | vfmsubVf  -- R5253 `vfmsub.vf`
  | vfnmsubVv  -- R5254 `vfnmsub.vv`
  | vfnmsubVf  -- R5255 `vfnmsub.vf`
  | vfmaccVv  -- R5256 `vfmacc.vv`
  | vfmaccVf  -- R5257 `vfmacc.vf`
  | vfnmaccVv  -- R5258 `vfnmacc.vv`
  | vfnmaccVf  -- R5259 `vfnmacc.vf`
  | vfmsacVv  -- R5260 `vfmsac.vv`
  | vfmsacVf  -- R5261 `vfmsac.vf`
  | vfnmsacVv  -- R5262 `vfnmsac.vv`
  | vfnmsacVf  -- R5263 `vfnmsac.vf`
  | vfwaddVv  -- R5264 `vfwadd.vv`
  | vfwaddVf  -- R5265 `vfwadd.vf`
  | vfwsubVv  -- R5266 `vfwsub.vv`
  | vfwsubVf  -- R5267 `vfwsub.vf`
  | vfwmulVv  -- R5268 `vfwmul.vv`
  | vfwmulVf  -- R5269 `vfwmul.vf`
  | vfwmaccVv  -- R5270 `vfwmacc.vv`
  | vfwmaccVf  -- R5271 `vfwmacc.vf`
  | vfwnmaccVv  -- R5272 `vfwnmacc.vv`
  | vfwnmaccVf  -- R5273 `vfwnmacc.vf`
  | vfwmsacVv  -- R5274 `vfwmsac.vv`
  | vfwmsacVf  -- R5275 `vfwmsac.vf`
  | vfwnmsacVv  -- R5276 `vfwnmsac.vv`
  | vfwnmsacVf  -- R5277 `vfwnmsac.vf`
  | vfredusumVs  -- R5278 `vfredusum.vs`
  | vfredosumVs  -- R5279 `vfredosum.vs`
  | vfredminVs  -- R5280 `vfredmin.vs`
  | vfredmaxVs  -- R5281 `vfredmax.vs`
  | vfwredusumVs  -- R5282 `vfwredusum.vs`
  | vfwredosumVs  -- R5283 `vfwredosum.vs`
  | vfwaddWv  -- R5284 `vfwadd.wv`
  | vfwaddWf  -- R5285 `vfwadd.wf`
  | vfwsubWv  -- R5286 `vfwsub.wv`
  | vfwsubWf  -- R5287 `vfwsub.wf`
  | vfmvFS  -- R5288 `vfmv.f.s`
  | vfmvSF  -- R5289 `vfmv.s.f`
  | vfcvtXuFV  -- R5290 `vfcvt.xu.f.v`
  | vfcvtXFV  -- R5291 `vfcvt.x.f.v`
  | vfcvtFXuV  -- R5292 `vfcvt.f.xu.v`
  | vfcvtFXV  -- R5293 `vfcvt.f.x.v`
  | vfcvtRtzXuFV  -- R5294 `vfcvt.rtz.xu.f.v`
  | vfcvtRtzXFV  -- R5295 `vfcvt.rtz.x.f.v`
  | vfwcvtXuFV  -- R5296 `vfwcvt.xu.f.v`
  | vfwcvtXFV  -- R5297 `vfwcvt.x.f.v`
  | vfwcvtFXuV  -- R5298 `vfwcvt.f.xu.v`
  | vfwcvtFXV  -- R5299 `vfwcvt.f.x.v`
  | vfwcvtFFV  -- R5300 `vfwcvt.f.f.v`
  | vfwcvtRtzXuFV  -- R5301 `vfwcvt.rtz.xu.f.v`
  | vfwcvtRtzXFV  -- R5302 `vfwcvt.rtz.x.f.v`
  | vfncvtXuFW  -- R5303 `vfncvt.xu.f.w`
  | vfncvtXFW  -- R5304 `vfncvt.x.f.w`
  | vfncvtFXuW  -- R5305 `vfncvt.f.xu.w`
  | vfncvtFXW  -- R5306 `vfncvt.f.x.w`
  | vfncvtFFW  -- R5307 `vfncvt.f.f.w`
  | vfncvtRodFFW  -- R5308 `vfncvt.rod.f.f.w`
  | vfncvtRtzXuFW  -- R5309 `vfncvt.rtz.xu.f.w`
  | vfncvtRtzXFW  -- R5310 `vfncvt.rtz.x.f.w`
  | vfsqrtV  -- R5311 `vfsqrt.v`
  | vfrsqrt7V  -- R5312 `vfrsqrt7.v`
  | vfrec7V  -- R5313 `vfrec7.v`
  | vfclassV  -- R5314 `vfclass.v`
  | vfmergeVfm  -- R5315 `vfmerge.vfm`
  | vfmvVF  -- R5316 `vfmv.v.f`
  -- Vector load/store (46_vector_ldst)
  | vle8V  -- R6000 `vle8.v`
  | vle8ffV  -- R6001 `vle8ff.v`
  | vse8V  -- R6002 `vse8.v`
  | vlse8V  -- R6003 `vlse8.v`
  | vsse8V  -- R6004 `vsse8.v`
  | vluxei8V  -- R6005 `vluxei8.v`
  | vsuxei8V  -- R6006 `vsuxei8.v`
  | vloxei8V  -- R6007 `vloxei8.v`
  | vsoxei8V  -- R6008 `vsoxei8.v`
  | vlseg2e8V  -- R6009 `vlseg2e8.v`
  | vlseg2e8ffV  -- R6010 `vlseg2e8ff.v`
  | vsseg2e8V  -- R6011 `vsseg2e8.v`
  | vlsseg2e8V  -- R6012 `vlsseg2e8.v`
  | vssseg2e8V  -- R6013 `vssseg2e8.v`
  | vluxseg2ei8V  -- R6014 `vluxseg2ei8.v`
  | vsuxseg2ei8V  -- R6015 `vsuxseg2ei8.v`
  | vloxseg2ei8V  -- R6016 `vloxseg2ei8.v`
  | vsoxseg2ei8V  -- R6017 `vsoxseg2ei8.v`
  | vlseg3e8V  -- R6018 `vlseg3e8.v`
  | vlseg3e8ffV  -- R6019 `vlseg3e8ff.v`
  | vsseg3e8V  -- R6020 `vsseg3e8.v`
  | vlsseg3e8V  -- R6021 `vlsseg3e8.v`
  | vssseg3e8V  -- R6022 `vssseg3e8.v`
  | vluxseg3ei8V  -- R6023 `vluxseg3ei8.v`
  | vsuxseg3ei8V  -- R6024 `vsuxseg3ei8.v`
  | vloxseg3ei8V  -- R6025 `vloxseg3ei8.v`
  | vsoxseg3ei8V  -- R6026 `vsoxseg3ei8.v`
  | vlseg4e8V  -- R6027 `vlseg4e8.v`
  | vlseg4e8ffV  -- R6028 `vlseg4e8ff.v`
  | vsseg4e8V  -- R6029 `vsseg4e8.v`
  | vlsseg4e8V  -- R6030 `vlsseg4e8.v`
  | vssseg4e8V  -- R6031 `vssseg4e8.v`
  | vluxseg4ei8V  -- R6032 `vluxseg4ei8.v`
  | vsuxseg4ei8V  -- R6033 `vsuxseg4ei8.v`
  | vloxseg4ei8V  -- R6034 `vloxseg4ei8.v`
  | vsoxseg4ei8V  -- R6035 `vsoxseg4ei8.v`
  | vlseg5e8V  -- R6036 `vlseg5e8.v`
  | vlseg5e8ffV  -- R6037 `vlseg5e8ff.v`
  | vsseg5e8V  -- R6038 `vsseg5e8.v`
  | vlsseg5e8V  -- R6039 `vlsseg5e8.v`
  | vssseg5e8V  -- R6040 `vssseg5e8.v`
  | vluxseg5ei8V  -- R6041 `vluxseg5ei8.v`
  | vsuxseg5ei8V  -- R6042 `vsuxseg5ei8.v`
  | vloxseg5ei8V  -- R6043 `vloxseg5ei8.v`
  | vsoxseg5ei8V  -- R6044 `vsoxseg5ei8.v`
  | vlseg6e8V  -- R6045 `vlseg6e8.v`
  | vlseg6e8ffV  -- R6046 `vlseg6e8ff.v`
  | vsseg6e8V  -- R6047 `vsseg6e8.v`
  | vlsseg6e8V  -- R6048 `vlsseg6e8.v`
  | vssseg6e8V  -- R6049 `vssseg6e8.v`
  | vluxseg6ei8V  -- R6050 `vluxseg6ei8.v`
  | vsuxseg6ei8V  -- R6051 `vsuxseg6ei8.v`
  | vloxseg6ei8V  -- R6052 `vloxseg6ei8.v`
  | vsoxseg6ei8V  -- R6053 `vsoxseg6ei8.v`
  | vlseg7e8V  -- R6054 `vlseg7e8.v`
  | vlseg7e8ffV  -- R6055 `vlseg7e8ff.v`
  | vsseg7e8V  -- R6056 `vsseg7e8.v`
  | vlsseg7e8V  -- R6057 `vlsseg7e8.v`
  | vssseg7e8V  -- R6058 `vssseg7e8.v`
  | vluxseg7ei8V  -- R6059 `vluxseg7ei8.v`
  | vsuxseg7ei8V  -- R6060 `vsuxseg7ei8.v`
  | vloxseg7ei8V  -- R6061 `vloxseg7ei8.v`
  | vsoxseg7ei8V  -- R6062 `vsoxseg7ei8.v`
  | vlseg8e8V  -- R6063 `vlseg8e8.v`
  | vlseg8e8ffV  -- R6064 `vlseg8e8ff.v`
  | vsseg8e8V  -- R6065 `vsseg8e8.v`
  | vlsseg8e8V  -- R6066 `vlsseg8e8.v`
  | vssseg8e8V  -- R6067 `vssseg8e8.v`
  | vluxseg8ei8V  -- R6068 `vluxseg8ei8.v`
  | vsuxseg8ei8V  -- R6069 `vsuxseg8ei8.v`
  | vloxseg8ei8V  -- R6070 `vloxseg8ei8.v`
  | vsoxseg8ei8V  -- R6071 `vsoxseg8ei8.v`
  | vl1re8V  -- R6072 `vl1re8.v`
  | vl2re8V  -- R6073 `vl2re8.v`
  | vl4re8V  -- R6074 `vl4re8.v`
  | vl8re8V  -- R6075 `vl8re8.v`
  | vle16V  -- R6076 `vle16.v`
  | vle16ffV  -- R6077 `vle16ff.v`
  | vse16V  -- R6078 `vse16.v`
  | vlse16V  -- R6079 `vlse16.v`
  | vsse16V  -- R6080 `vsse16.v`
  | vluxei16V  -- R6081 `vluxei16.v`
  | vsuxei16V  -- R6082 `vsuxei16.v`
  | vloxei16V  -- R6083 `vloxei16.v`
  | vsoxei16V  -- R6084 `vsoxei16.v`
  | vlseg2e16V  -- R6085 `vlseg2e16.v`
  | vlseg2e16ffV  -- R6086 `vlseg2e16ff.v`
  | vsseg2e16V  -- R6087 `vsseg2e16.v`
  | vlsseg2e16V  -- R6088 `vlsseg2e16.v`
  | vssseg2e16V  -- R6089 `vssseg2e16.v`
  | vluxseg2ei16V  -- R6090 `vluxseg2ei16.v`
  | vsuxseg2ei16V  -- R6091 `vsuxseg2ei16.v`
  | vloxseg2ei16V  -- R6092 `vloxseg2ei16.v`
  | vsoxseg2ei16V  -- R6093 `vsoxseg2ei16.v`
  | vlseg3e16V  -- R6094 `vlseg3e16.v`
  | vlseg3e16ffV  -- R6095 `vlseg3e16ff.v`
  | vsseg3e16V  -- R6096 `vsseg3e16.v`
  | vlsseg3e16V  -- R6097 `vlsseg3e16.v`
  | vssseg3e16V  -- R6098 `vssseg3e16.v`
  | vluxseg3ei16V  -- R6099 `vluxseg3ei16.v`
  | vsuxseg3ei16V  -- R6100 `vsuxseg3ei16.v`
  | vloxseg3ei16V  -- R6101 `vloxseg3ei16.v`
  | vsoxseg3ei16V  -- R6102 `vsoxseg3ei16.v`
  | vlseg4e16V  -- R6103 `vlseg4e16.v`
  | vlseg4e16ffV  -- R6104 `vlseg4e16ff.v`
  | vsseg4e16V  -- R6105 `vsseg4e16.v`
  | vlsseg4e16V  -- R6106 `vlsseg4e16.v`
  | vssseg4e16V  -- R6107 `vssseg4e16.v`
  | vluxseg4ei16V  -- R6108 `vluxseg4ei16.v`
  | vsuxseg4ei16V  -- R6109 `vsuxseg4ei16.v`
  | vloxseg4ei16V  -- R6110 `vloxseg4ei16.v`
  | vsoxseg4ei16V  -- R6111 `vsoxseg4ei16.v`
  | vlseg5e16V  -- R6112 `vlseg5e16.v`
  | vlseg5e16ffV  -- R6113 `vlseg5e16ff.v`
  | vsseg5e16V  -- R6114 `vsseg5e16.v`
  | vlsseg5e16V  -- R6115 `vlsseg5e16.v`
  | vssseg5e16V  -- R6116 `vssseg5e16.v`
  | vluxseg5ei16V  -- R6117 `vluxseg5ei16.v`
  | vsuxseg5ei16V  -- R6118 `vsuxseg5ei16.v`
  | vloxseg5ei16V  -- R6119 `vloxseg5ei16.v`
  | vsoxseg5ei16V  -- R6120 `vsoxseg5ei16.v`
  | vlseg6e16V  -- R6121 `vlseg6e16.v`
  | vlseg6e16ffV  -- R6122 `vlseg6e16ff.v`
  | vsseg6e16V  -- R6123 `vsseg6e16.v`
  | vlsseg6e16V  -- R6124 `vlsseg6e16.v`
  | vssseg6e16V  -- R6125 `vssseg6e16.v`
  | vluxseg6ei16V  -- R6126 `vluxseg6ei16.v`
  | vsuxseg6ei16V  -- R6127 `vsuxseg6ei16.v`
  | vloxseg6ei16V  -- R6128 `vloxseg6ei16.v`
  | vsoxseg6ei16V  -- R6129 `vsoxseg6ei16.v`
  | vlseg7e16V  -- R6130 `vlseg7e16.v`
  | vlseg7e16ffV  -- R6131 `vlseg7e16ff.v`
  | vsseg7e16V  -- R6132 `vsseg7e16.v`
  | vlsseg7e16V  -- R6133 `vlsseg7e16.v`
  | vssseg7e16V  -- R6134 `vssseg7e16.v`
  | vluxseg7ei16V  -- R6135 `vluxseg7ei16.v`
  | vsuxseg7ei16V  -- R6136 `vsuxseg7ei16.v`
  | vloxseg7ei16V  -- R6137 `vloxseg7ei16.v`
  | vsoxseg7ei16V  -- R6138 `vsoxseg7ei16.v`
  | vlseg8e16V  -- R6139 `vlseg8e16.v`
  | vlseg8e16ffV  -- R6140 `vlseg8e16ff.v`
  | vsseg8e16V  -- R6141 `vsseg8e16.v`
  | vlsseg8e16V  -- R6142 `vlsseg8e16.v`
  | vssseg8e16V  -- R6143 `vssseg8e16.v`
  | vluxseg8ei16V  -- R6144 `vluxseg8ei16.v`
  | vsuxseg8ei16V  -- R6145 `vsuxseg8ei16.v`
  | vloxseg8ei16V  -- R6146 `vloxseg8ei16.v`
  | vsoxseg8ei16V  -- R6147 `vsoxseg8ei16.v`
  | vl1re16V  -- R6148 `vl1re16.v`
  | vl2re16V  -- R6149 `vl2re16.v`
  | vl4re16V  -- R6150 `vl4re16.v`
  | vl8re16V  -- R6151 `vl8re16.v`
  | vle32V  -- R6152 `vle32.v`
  | vle32ffV  -- R6153 `vle32ff.v`
  | vse32V  -- R6154 `vse32.v`
  | vlse32V  -- R6155 `vlse32.v`
  | vsse32V  -- R6156 `vsse32.v`
  | vluxei32V  -- R6157 `vluxei32.v`
  | vsuxei32V  -- R6158 `vsuxei32.v`
  | vloxei32V  -- R6159 `vloxei32.v`
  | vsoxei32V  -- R6160 `vsoxei32.v`
  | vlseg2e32V  -- R6161 `vlseg2e32.v`
  | vlseg2e32ffV  -- R6162 `vlseg2e32ff.v`
  | vsseg2e32V  -- R6163 `vsseg2e32.v`
  | vlsseg2e32V  -- R6164 `vlsseg2e32.v`
  | vssseg2e32V  -- R6165 `vssseg2e32.v`
  | vluxseg2ei32V  -- R6166 `vluxseg2ei32.v`
  | vsuxseg2ei32V  -- R6167 `vsuxseg2ei32.v`
  | vloxseg2ei32V  -- R6168 `vloxseg2ei32.v`
  | vsoxseg2ei32V  -- R6169 `vsoxseg2ei32.v`
  | vlseg3e32V  -- R6170 `vlseg3e32.v`
  | vlseg3e32ffV  -- R6171 `vlseg3e32ff.v`
  | vsseg3e32V  -- R6172 `vsseg3e32.v`
  | vlsseg3e32V  -- R6173 `vlsseg3e32.v`
  | vssseg3e32V  -- R6174 `vssseg3e32.v`
  | vluxseg3ei32V  -- R6175 `vluxseg3ei32.v`
  | vsuxseg3ei32V  -- R6176 `vsuxseg3ei32.v`
  | vloxseg3ei32V  -- R6177 `vloxseg3ei32.v`
  | vsoxseg3ei32V  -- R6178 `vsoxseg3ei32.v`
  | vlseg4e32V  -- R6179 `vlseg4e32.v`
  | vlseg4e32ffV  -- R6180 `vlseg4e32ff.v`
  | vsseg4e32V  -- R6181 `vsseg4e32.v`
  | vlsseg4e32V  -- R6182 `vlsseg4e32.v`
  | vssseg4e32V  -- R6183 `vssseg4e32.v`
  | vluxseg4ei32V  -- R6184 `vluxseg4ei32.v`
  | vsuxseg4ei32V  -- R6185 `vsuxseg4ei32.v`
  | vloxseg4ei32V  -- R6186 `vloxseg4ei32.v`
  | vsoxseg4ei32V  -- R6187 `vsoxseg4ei32.v`
  | vlseg5e32V  -- R6188 `vlseg5e32.v`
  | vlseg5e32ffV  -- R6189 `vlseg5e32ff.v`
  | vsseg5e32V  -- R6190 `vsseg5e32.v`
  | vlsseg5e32V  -- R6191 `vlsseg5e32.v`
  | vssseg5e32V  -- R6192 `vssseg5e32.v`
  | vluxseg5ei32V  -- R6193 `vluxseg5ei32.v`
  | vsuxseg5ei32V  -- R6194 `vsuxseg5ei32.v`
  | vloxseg5ei32V  -- R6195 `vloxseg5ei32.v`
  | vsoxseg5ei32V  -- R6196 `vsoxseg5ei32.v`
  | vlseg6e32V  -- R6197 `vlseg6e32.v`
  | vlseg6e32ffV  -- R6198 `vlseg6e32ff.v`
  | vsseg6e32V  -- R6199 `vsseg6e32.v`
  | vlsseg6e32V  -- R6200 `vlsseg6e32.v`
  | vssseg6e32V  -- R6201 `vssseg6e32.v`
  | vluxseg6ei32V  -- R6202 `vluxseg6ei32.v`
  | vsuxseg6ei32V  -- R6203 `vsuxseg6ei32.v`
  | vloxseg6ei32V  -- R6204 `vloxseg6ei32.v`
  | vsoxseg6ei32V  -- R6205 `vsoxseg6ei32.v`
  | vlseg7e32V  -- R6206 `vlseg7e32.v`
  | vlseg7e32ffV  -- R6207 `vlseg7e32ff.v`
  | vsseg7e32V  -- R6208 `vsseg7e32.v`
  | vlsseg7e32V  -- R6209 `vlsseg7e32.v`
  | vssseg7e32V  -- R6210 `vssseg7e32.v`
  | vluxseg7ei32V  -- R6211 `vluxseg7ei32.v`
  | vsuxseg7ei32V  -- R6212 `vsuxseg7ei32.v`
  | vloxseg7ei32V  -- R6213 `vloxseg7ei32.v`
  | vsoxseg7ei32V  -- R6214 `vsoxseg7ei32.v`
  | vlseg8e32V  -- R6215 `vlseg8e32.v`
  | vlseg8e32ffV  -- R6216 `vlseg8e32ff.v`
  | vsseg8e32V  -- R6217 `vsseg8e32.v`
  | vlsseg8e32V  -- R6218 `vlsseg8e32.v`
  | vssseg8e32V  -- R6219 `vssseg8e32.v`
  | vluxseg8ei32V  -- R6220 `vluxseg8ei32.v`
  | vsuxseg8ei32V  -- R6221 `vsuxseg8ei32.v`
  | vloxseg8ei32V  -- R6222 `vloxseg8ei32.v`
  | vsoxseg8ei32V  -- R6223 `vsoxseg8ei32.v`
  | vl1re32V  -- R6224 `vl1re32.v`
  | vl2re32V  -- R6225 `vl2re32.v`
  | vl4re32V  -- R6226 `vl4re32.v`
  | vl8re32V  -- R6227 `vl8re32.v`
  | vle64V  -- R6228 `vle64.v`
  | vle64ffV  -- R6229 `vle64ff.v`
  | vse64V  -- R6230 `vse64.v`
  | vlse64V  -- R6231 `vlse64.v`
  | vsse64V  -- R6232 `vsse64.v`
  | vluxei64V  -- R6233 `vluxei64.v`
  | vsuxei64V  -- R6234 `vsuxei64.v`
  | vloxei64V  -- R6235 `vloxei64.v`
  | vsoxei64V  -- R6236 `vsoxei64.v`
  | vlseg2e64V  -- R6237 `vlseg2e64.v`
  | vlseg2e64ffV  -- R6238 `vlseg2e64ff.v`
  | vsseg2e64V  -- R6239 `vsseg2e64.v`
  | vlsseg2e64V  -- R6240 `vlsseg2e64.v`
  | vssseg2e64V  -- R6241 `vssseg2e64.v`
  | vluxseg2ei64V  -- R6242 `vluxseg2ei64.v`
  | vsuxseg2ei64V  -- R6243 `vsuxseg2ei64.v`
  | vloxseg2ei64V  -- R6244 `vloxseg2ei64.v`
  | vsoxseg2ei64V  -- R6245 `vsoxseg2ei64.v`
  | vlseg3e64V  -- R6246 `vlseg3e64.v`
  | vlseg3e64ffV  -- R6247 `vlseg3e64ff.v`
  | vsseg3e64V  -- R6248 `vsseg3e64.v`
  | vlsseg3e64V  -- R6249 `vlsseg3e64.v`
  | vssseg3e64V  -- R6250 `vssseg3e64.v`
  | vluxseg3ei64V  -- R6251 `vluxseg3ei64.v`
  | vsuxseg3ei64V  -- R6252 `vsuxseg3ei64.v`
  | vloxseg3ei64V  -- R6253 `vloxseg3ei64.v`
  | vsoxseg3ei64V  -- R6254 `vsoxseg3ei64.v`
  | vlseg4e64V  -- R6255 `vlseg4e64.v`
  | vlseg4e64ffV  -- R6256 `vlseg4e64ff.v`
  | vsseg4e64V  -- R6257 `vsseg4e64.v`
  | vlsseg4e64V  -- R6258 `vlsseg4e64.v`
  | vssseg4e64V  -- R6259 `vssseg4e64.v`
  | vluxseg4ei64V  -- R6260 `vluxseg4ei64.v`
  | vsuxseg4ei64V  -- R6261 `vsuxseg4ei64.v`
  | vloxseg4ei64V  -- R6262 `vloxseg4ei64.v`
  | vsoxseg4ei64V  -- R6263 `vsoxseg4ei64.v`
  | vlseg5e64V  -- R6264 `vlseg5e64.v`
  | vlseg5e64ffV  -- R6265 `vlseg5e64ff.v`
  | vsseg5e64V  -- R6266 `vsseg5e64.v`
  | vlsseg5e64V  -- R6267 `vlsseg5e64.v`
  | vssseg5e64V  -- R6268 `vssseg5e64.v`
  | vluxseg5ei64V  -- R6269 `vluxseg5ei64.v`
  | vsuxseg5ei64V  -- R6270 `vsuxseg5ei64.v`
  | vloxseg5ei64V  -- R6271 `vloxseg5ei64.v`
  | vsoxseg5ei64V  -- R6272 `vsoxseg5ei64.v`
  | vlseg6e64V  -- R6273 `vlseg6e64.v`
  | vlseg6e64ffV  -- R6274 `vlseg6e64ff.v`
  | vsseg6e64V  -- R6275 `vsseg6e64.v`
  | vlsseg6e64V  -- R6276 `vlsseg6e64.v`
  | vssseg6e64V  -- R6277 `vssseg6e64.v`
  | vluxseg6ei64V  -- R6278 `vluxseg6ei64.v`
  | vsuxseg6ei64V  -- R6279 `vsuxseg6ei64.v`
  | vloxseg6ei64V  -- R6280 `vloxseg6ei64.v`
  | vsoxseg6ei64V  -- R6281 `vsoxseg6ei64.v`
  | vlseg7e64V  -- R6282 `vlseg7e64.v`
  | vlseg7e64ffV  -- R6283 `vlseg7e64ff.v`
  | vsseg7e64V  -- R6284 `vsseg7e64.v`
  | vlsseg7e64V  -- R6285 `vlsseg7e64.v`
  | vssseg7e64V  -- R6286 `vssseg7e64.v`
  | vluxseg7ei64V  -- R6287 `vluxseg7ei64.v`
  | vsuxseg7ei64V  -- R6288 `vsuxseg7ei64.v`
  | vloxseg7ei64V  -- R6289 `vloxseg7ei64.v`
  | vsoxseg7ei64V  -- R6290 `vsoxseg7ei64.v`
  | vlseg8e64V  -- R6291 `vlseg8e64.v`
  | vlseg8e64ffV  -- R6292 `vlseg8e64ff.v`
  | vsseg8e64V  -- R6293 `vsseg8e64.v`
  | vlsseg8e64V  -- R6294 `vlsseg8e64.v`
  | vssseg8e64V  -- R6295 `vssseg8e64.v`
  | vluxseg8ei64V  -- R6296 `vluxseg8ei64.v`
  | vsuxseg8ei64V  -- R6297 `vsuxseg8ei64.v`
  | vloxseg8ei64V  -- R6298 `vloxseg8ei64.v`
  | vsoxseg8ei64V  -- R6299 `vsoxseg8ei64.v`
  | vl1re64V  -- R6300 `vl1re64.v`
  | vl2re64V  -- R6301 `vl2re64.v`
  | vl4re64V  -- R6302 `vl4re64.v`
  | vl8re64V  -- R6303 `vl8re64.v`
  | vs1rV  -- R6304 `vs1r.v`
  | vs2rV  -- R6305 `vs2r.v`
  | vs4rV  -- R6306 `vs4r.v`
  | vs8rV  -- R6307 `vs8r.v`
  | vlmV  -- R6308 `vlm.v`
  | vsmV  -- R6309 `vsm.v`
  -- Vendor (47_vendor)
  | thAddsl  -- R7000 `th.addsl`
  | thSrri  -- R7001 `th.srri`
  | thSrriw  -- R7002 `th.srriw`
  | thExt  -- R7003 `th.ext`
  | thExtu  -- R7004 `th.extu`
  | thFf0  -- R7005 `th.ff0`
  | thFf1  -- R7006 `th.ff1`
  | thRev  -- R7007 `th.rev`
  | thRevw  -- R7008 `th.revw`
  | thTstnbz  -- R7009 `th.tstnbz`
  | thTst  -- R7010 `th.tst`
  | thMveqz  -- R7011 `th.mveqz`
  | thMvnez  -- R7012 `th.mvnez`
  | vtMaskc  -- R7013 `vt.maskc`
  | vtMaskcn  -- R7014 `vt.maskcn`
  -- Pseudo-instructions (48_pseudo)
  | nop  -- R8000 `nop`
  | mv  -- R8001 `mv`
  | li  -- R8002 `li`
  | sextW  -- R8003 `sext.w`
  | not  -- R8004 `not`
  | seqz  -- R8005 `seqz`
  | snez  -- R8006 `snez`
  | sltz  -- R8007 `sltz`
  | sgtz  -- R8008 `sgtz`
  | neg  -- R8009 `neg`
  | negw  -- R8010 `negw`
  | beqz  -- R8011 `beqz`
  | bnez  -- R8012 `bnez`
  | bltz  -- R8013 `bltz`
  | bgtz  -- R8014 `bgtz`
  | blez  -- R8015 `blez`
  | bgez  -- R8016 `bgez`
  | j  -- R8017 `j`
  | jalP  -- R8018 `jal.p`
  | ret  -- R8019 `ret`
  | jr  -- R8020 `jr`
  | jalrP  -- R8021 `jalr.p`
  | fsrm  -- R8022 `fsrm`
  | fsflags  -- R8023 `fsflags`
  | fscsr  -- R8024 `fscsr`
  | csrw  -- R8025 `csrw`
  | rdcycle  -- R8026 `rdcycle`
  | rdtime  -- R8027 `rdtime`
  | rdinstret  -- R8028 `rdinstret`
  | rdcycleh  -- R8029 `rdcycleh`
  | rdtimeh  -- R8030 `rdtimeh`
  | rdinstreth  -- R8031 `rdinstreth`
  | frcsr  -- R8032 `frcsr`
  | frrm  -- R8033 `frrm`
  | frflags  -- R8034 `frflags`
  | csrr  -- R8035 `csrr`
  | csrs  -- R8036 `csrs`
  | csrc  -- R8037 `csrc`
  | fsrmi  -- R8038 `fsrmi`
  | fsflagsi  -- R8039 `fsflagsi`
  | csrwi  -- R8040 `csrwi`
  | csrsi  -- R8041 `csrsi`
  | csrci  -- R8042 `csrci`
  | fmvS  -- R8043 `fmv.s`
  | fnegS  -- R8044 `fneg.s`
  | fabsS  -- R8045 `fabs.s`
  | fmvD  -- R8046 `fmv.d`
  | fnegD  -- R8047 `fneg.d`
  | fabsD  -- R8048 `fabs.d`
  | fmvH  -- R8049 `fmv.h`
  | fnegH  -- R8050 `fneg.h`
  | fabsH  -- R8051 `fabs.h`
  | fmvQ  -- R8052 `fmv.q`
  | fnegQ  -- R8053 `fneg.q`
  | fabsQ  -- R8054 `fabs.q`
  | zextW  -- R8055 `zext.w`
  | vnotV  -- R8056 `vnot.v`
  | vnegV  -- R8057 `vneg.v`
  | vwcvtXXV  -- R8058 `vwcvt.x.x.v`
  | vwcvtuXXV  -- R8059 `vwcvtu.x.x.v`
  | vncvtXXW  -- R8060 `vncvt.x.x.w`
  | vmmvM  -- R8061 `vmmv.m`
  | vmnotM  -- R8062 `vmnot.m`
  | vmclrM  -- R8063 `vmclr.m`
  | vmsetM  -- R8064 `vmset.m`
  | vfnegV  -- R8065 `vfneg.v`
  | vfabsV  -- R8066 `vfabs.v`
deriving DecidableEq, Repr

end Sys2Proof
end

