-- ==== Sys2Proof/Machine/Catalog.lean ====
section
/-! DEFINITION. Machine/Catalog.lean: the constant contents of the catalogs (10_state.md R43): one descriptor per opcode,
with its number, catalog, codec, register files (30_encoding.md R113), decompression targets and nonzero-immediate flag
(44_compressed.md; 40_pipeline.md R208, R209) and ordered pseudo-rule list (48_pseudo.md; R211). The descriptor's format
template is the out-of-scope renderer's (00_scope.md R5) and is left out. -/

namespace Sys2Proof

/-- The register file each index names (R113); a field not listed is `x` (of a pseudo-opcode: assumption log 20). -/
structure RegFiles where
  rd : RegFile := .x
  rs1 : RegFile := .x
  rs2 : RegFile := .x
  rs3 : RegFile := .x
deriving DecidableEq, Repr

/-- One constraint of a pseudo rule: an equality over record fields (48_pseudo.md). -/
inductive Constraint where
  | rdIs (n : RegIdx) | rs1Is (n : RegIdx) | rs2Is (n : RegIdx)
  | immIs (v : Imm) | csrIs (v : BitVec 12)
  | rs2IsRs1 | rdIsRs1
deriving DecidableEq, Repr

/-- The constraint holds on the operand fields. -/
def Constraint.holds (o : Operands) : Constraint → Bool
  | .rdIs n => o.rd == n
  | .rs1Is n => o.rs1 == n
  | .rs2Is n => o.rs2 == n
  | .immIs v => o.imm == v
  | .csrIs v => o.csr == v
  | .rs2IsRs1 => o.rs2 == o.rs1
  | .rdIsRs1 => o.rd == o.rs1

/-- One pseudo rule: the pseudo-opcode and the constraints that must all hold (48_pseudo.md, R8000 to R8066). -/
structure PseudoRule where
  op : Instr
  constraints : List Constraint
deriving DecidableEq, Repr

/-- Every constraint of the rule holds on the operand fields. -/
def PseudoRule.holds (o : Operands) (p : PseudoRule) : Bool := p.constraints.all (Constraint.holds o)

/-- An opcode's descriptor (R43). `name` is the display name (of `jal.p` and `jalr.p`: `jal` and `jalr`). `length` is the
byte length of the encoding (2 or 4); `target32`, `target64` and `target128` are the decompression targets (`none` is the
source's target "illegal", R208); `nonzeroImm` is the nonzero-immediate flag (R209); `canonical` is, of a pseudo-opcode,
the opcode whose list holds it. -/
structure Descriptor where
  name : String
  id : Nat
  codec : Codec
  catalog : Catalog := .base
  length : Nat := 4
  regs : RegFiles := {}
  target32 : Option Instr := none
  target64 : Option Instr := none
  target128 : Option Instr := none
  nonzeroImm : Bool := false
  pseudo : List PseudoRule := []
  canonical : Option Instr := none
deriving DecidableEq, Repr

/-- Register files rd = f (R113). -/
def rf_rdf : RegFiles := { rd := .f }

/-- Register files rs2 = f (R113). -/
def rf_rs2f : RegFiles := { rs2 := .f }

/-- Register files rd = f, rs1 = f, rs2 = f, rs3 = f (R113). -/
def rf_rdf_rs1f_rs2f_rs3f : RegFiles := { rd := .f, rs1 := .f, rs2 := .f, rs3 := .f }

/-- Register files rs1 = f, rs2 = f (R113). -/
def rf_rs1f_rs2f : RegFiles := { rs1 := .f, rs2 := .f }

/-- Register files rs1 = f (R113). -/
def rf_rs1f : RegFiles := { rs1 := .f }

/-- Register files rd = v, rs1 = v, rs2 = v (R113). -/
def rf_rdv_rs1v_rs2v : RegFiles := { rd := .v, rs1 := .v, rs2 := .v }

/-- Register files rd = v, rs2 = v (R113). -/
def rf_rdv_rs2v : RegFiles := { rd := .v, rs2 := .v }

/-- Register files rd = v, rs1 = v (R113). -/
def rf_rdv_rs1v : RegFiles := { rd := .v, rs1 := .v }

/-- Register files rd = v (R113). -/
def rf_rdv : RegFiles := { rd := .v }

/-- Register files rs2 = v (R113). -/
def rf_rs2v : RegFiles := { rs2 := .v }

/-- Register files rd = v, rs1 = f, rs2 = v (R113). -/
def rf_rdv_rs1f_rs2v : RegFiles := { rd := .v, rs1 := .f, rs2 := .v }

/-- Register files rd = f, rs2 = v (R113). -/
def rf_rdf_rs2v : RegFiles := { rd := .f, rs2 := .v }

/-- Register files rd = v, rs1 = f (R113). -/
def rf_rdv_rs1f : RegFiles := { rd := .v, rs1 := .f }

/-- The descriptor of each opcode (R43): files 41 to 48 and spec/opcode_table.json. 48_pseudo.md lists no register files: a
pseudo-opcode has its canonical opcode's, not the default `x` of R113 (DESIGN CHOICE, unsafe, assumption log 20). -/
def Instr.descriptor (i : Instr) : Descriptor :=
  match i with
  -- Base integer, M, A, Zicsr, Zifencei, privileged, H, cache-block (41_base_integer)
  | .lui => { name := "lui", id := 1, codec := .u }
  | .auipc => { name := "auipc", id := 2, codec := .u }
  | .jal => { name := "jal", id := 3, codec := .j, pseudo := [⟨.j, [.rdIs 0]⟩, ⟨.jalP, [.rdIs 1]⟩] }
  | .jalr => { name := "jalr", id := 4, codec := .i, pseudo := [⟨.ret, [.rdIs 0, .rs1Is 1, .immIs 0]⟩, ⟨.jr, [.rdIs 0, .immIs 0]⟩, ⟨.jalrP, [.rdIs 1, .immIs 0]⟩] }
  | .beq => { name := "beq", id := 5, codec := .b, pseudo := [⟨.beqz, [.rs2Is 0]⟩] }
  | .bne => { name := "bne", id := 6, codec := .b, pseudo := [⟨.bnez, [.rs2Is 0]⟩] }
  | .blt => { name := "blt", id := 7, codec := .b, pseudo := [⟨.bltz, [.rs2Is 0]⟩, ⟨.bgtz, [.rs1Is 0]⟩] }
  | .bge => { name := "bge", id := 8, codec := .b, pseudo := [⟨.blez, [.rs1Is 0]⟩, ⟨.bgez, [.rs2Is 0]⟩] }
  | .bltu => { name := "bltu", id := 9, codec := .b }
  | .bgeu => { name := "bgeu", id := 10, codec := .b }
  | .lb => { name := "lb", id := 11, codec := .i }
  | .lh => { name := "lh", id := 12, codec := .i }
  | .lw => { name := "lw", id := 13, codec := .i }
  | .ld => { name := "ld", id := 14, codec := .i }
  | .lbu => { name := "lbu", id := 15, codec := .i }
  | .lhu => { name := "lhu", id := 16, codec := .i }
  | .lwu => { name := "lwu", id := 17, codec := .i }
  | .ldu => { name := "ldu", id := 18, codec := .i }
  | .sb => { name := "sb", id := 19, codec := .s }
  | .sh => { name := "sh", id := 20, codec := .s }
  | .sw => { name := "sw", id := 21, codec := .s }
  | .sd => { name := "sd", id := 22, codec := .s }
  | .sq => { name := "sq", id := 23, codec := .s }
  | .addi => { name := "addi", id := 24, codec := .i, pseudo := [⟨.nop, [.rdIs 0, .rs1Is 0, .immIs 0]⟩, ⟨.mv, [.immIs 0]⟩, ⟨.li, [.rs1Is 0]⟩] }
  | .slti => { name := "slti", id := 25, codec := .i }
  | .sltiu => { name := "sltiu", id := 26, codec := .i, pseudo := [⟨.seqz, [.immIs 1]⟩] }
  | .xori => { name := "xori", id := 27, codec := .i, pseudo := [⟨.not, [.immIs (-1)]⟩] }
  | .ori => { name := "ori", id := 28, codec := .i }
  | .andi => { name := "andi", id := 29, codec := .i }
  | .slli => { name := "slli", id := 30, codec := .i_sh }
  | .srli => { name := "srli", id := 31, codec := .i_sh }
  | .srai => { name := "srai", id := 32, codec := .i_sh }
  | .add => { name := "add", id := 33, codec := .r }
  | .sub => { name := "sub", id := 34, codec := .r, pseudo := [⟨.neg, [.rs1Is 0]⟩] }
  | .sll => { name := "sll", id := 35, codec := .r }
  | .slt => { name := "slt", id := 36, codec := .r, pseudo := [⟨.sltz, [.rs2Is 0]⟩, ⟨.sgtz, [.rs1Is 0]⟩] }
  | .sltu => { name := "sltu", id := 37, codec := .r, pseudo := [⟨.snez, [.rs1Is 0]⟩] }
  | .xor => { name := "xor", id := 38, codec := .r }
  | .srl => { name := "srl", id := 39, codec := .r }
  | .sra => { name := "sra", id := 40, codec := .r }
  | .or => { name := "or", id := 41, codec := .r }
  | .and => { name := "and", id := 42, codec := .r }
  | .fence => { name := "fence", id := 43, codec := .r_f }
  | .fenceI => { name := "fence.i", id := 44, codec := .none }
  | .ecall => { name := "ecall", id := 45, codec := .none }
  | .ebreak => { name := "ebreak", id := 46, codec := .none }
  | .addiw => { name := "addiw", id := 47, codec := .i, pseudo := [⟨.sextW, [.immIs 0]⟩] }
  | .slliw => { name := "slliw", id := 48, codec := .i_sh5 }
  | .srliw => { name := "srliw", id := 49, codec := .i_sh5 }
  | .sraiw => { name := "sraiw", id := 50, codec := .i_sh5 }
  | .addw => { name := "addw", id := 51, codec := .r }
  | .subw => { name := "subw", id := 52, codec := .r, pseudo := [⟨.negw, [.rs1Is 0]⟩] }
  | .sllw => { name := "sllw", id := 53, codec := .r }
  | .srlw => { name := "srlw", id := 54, codec := .r }
  | .sraw => { name := "sraw", id := 55, codec := .r }
  | .lq => { name := "lq", id := 56, codec := .i }
  | .addid => { name := "addid", id := 57, codec := .i }
  | .sllid => { name := "sllid", id := 58, codec := .i_sh6 }
  | .srlid => { name := "srlid", id := 59, codec := .i_sh6 }
  | .sraid => { name := "sraid", id := 60, codec := .i_sh6 }
  | .addd => { name := "addd", id := 61, codec := .r }
  | .subd => { name := "subd", id := 62, codec := .r }
  | .slld => { name := "slld", id := 63, codec := .r }
  | .srld => { name := "srld", id := 64, codec := .r }
  | .srad => { name := "srad", id := 65, codec := .r }
  | .mul => { name := "mul", id := 66, codec := .r }
  | .mulh => { name := "mulh", id := 67, codec := .r }
  | .mulhsu => { name := "mulhsu", id := 68, codec := .r }
  | .mulhu => { name := "mulhu", id := 69, codec := .r }
  | .div => { name := "div", id := 70, codec := .r }
  | .divu => { name := "divu", id := 71, codec := .r }
  | .rem => { name := "rem", id := 72, codec := .r }
  | .remu => { name := "remu", id := 73, codec := .r }
  | .mulw => { name := "mulw", id := 74, codec := .r }
  | .divw => { name := "divw", id := 75, codec := .r }
  | .divuw => { name := "divuw", id := 76, codec := .r }
  | .remw => { name := "remw", id := 77, codec := .r }
  | .remuw => { name := "remuw", id := 78, codec := .r }
  | .muld => { name := "muld", id := 79, codec := .r }
  | .divd => { name := "divd", id := 80, codec := .r }
  | .divud => { name := "divud", id := 81, codec := .r }
  | .remd => { name := "remd", id := 82, codec := .r }
  | .remud => { name := "remud", id := 83, codec := .r }
  | .lrW => { name := "lr.w", id := 84, codec := .r_l }
  | .scW => { name := "sc.w", id := 85, codec := .r_a }
  | .amoaddW => { name := "amoadd.w", id := 86, codec := .r_a }
  | .amoswapW => { name := "amoswap.w", id := 87, codec := .r_a }
  | .amoxorW => { name := "amoxor.w", id := 88, codec := .r_a }
  | .amoorW => { name := "amoor.w", id := 89, codec := .r_a }
  | .amoandW => { name := "amoand.w", id := 90, codec := .r_a }
  | .amominW => { name := "amomin.w", id := 91, codec := .r_a }
  | .amomaxW => { name := "amomax.w", id := 92, codec := .r_a }
  | .amominuW => { name := "amominu.w", id := 93, codec := .r_a }
  | .amomaxuW => { name := "amomaxu.w", id := 94, codec := .r_a }
  | .lrD => { name := "lr.d", id := 95, codec := .r_l }
  | .scD => { name := "sc.d", id := 96, codec := .r_a }
  | .amoaddD => { name := "amoadd.d", id := 97, codec := .r_a }
  | .amoswapD => { name := "amoswap.d", id := 98, codec := .r_a }
  | .amoxorD => { name := "amoxor.d", id := 99, codec := .r_a }
  | .amoorD => { name := "amoor.d", id := 100, codec := .r_a }
  | .amoandD => { name := "amoand.d", id := 101, codec := .r_a }
  | .amominD => { name := "amomin.d", id := 102, codec := .r_a }
  | .amomaxD => { name := "amomax.d", id := 103, codec := .r_a }
  | .amominuD => { name := "amominu.d", id := 104, codec := .r_a }
  | .amomaxuD => { name := "amomaxu.d", id := 105, codec := .r_a }
  | .lrQ => { name := "lr.q", id := 106, codec := .r_l }
  | .scQ => { name := "sc.q", id := 107, codec := .r_a }
  | .amoaddQ => { name := "amoadd.q", id := 108, codec := .r_a }
  | .amoswapQ => { name := "amoswap.q", id := 109, codec := .r_a }
  | .amoxorQ => { name := "amoxor.q", id := 110, codec := .r_a }
  | .amoorQ => { name := "amoor.q", id := 111, codec := .r_a }
  | .amoandQ => { name := "amoand.q", id := 112, codec := .r_a }
  | .amominQ => { name := "amomin.q", id := 113, codec := .r_a }
  | .amomaxQ => { name := "amomax.q", id := 114, codec := .r_a }
  | .amominuQ => { name := "amominu.q", id := 115, codec := .r_a }
  | .amomaxuQ => { name := "amomaxu.q", id := 116, codec := .r_a }
  | .csrrw => { name := "csrrw", id := 117, codec := .i_csr, pseudo := [⟨.fsrm, [.csrIs 0x002]⟩, ⟨.fsflags, [.csrIs 0x001]⟩, ⟨.fscsr, [.csrIs 0x003]⟩, ⟨.csrw, [.rdIs 0]⟩] }
  | .csrrs => { name := "csrrs", id := 118, codec := .i_csr, pseudo := [⟨.rdcycle, [.rs1Is 0, .csrIs 0xc00]⟩, ⟨.rdtime, [.rs1Is 0, .csrIs 0xc01]⟩, ⟨.rdinstret, [.rs1Is 0, .csrIs 0xc02]⟩, ⟨.rdcycleh, [.rs1Is 0, .csrIs 0xc80]⟩, ⟨.rdtimeh, [.rs1Is 0, .csrIs 0xc81]⟩, ⟨.rdinstreth, [.rs1Is 0, .csrIs 0xc82]⟩, ⟨.frcsr, [.rs1Is 0, .csrIs 0x003]⟩, ⟨.frrm, [.rs1Is 0, .csrIs 0x002]⟩, ⟨.frflags, [.rs1Is 0, .csrIs 0x001]⟩, ⟨.csrr, [.rs1Is 0]⟩, ⟨.csrs, [.rdIs 0]⟩] }
  | .csrrc => { name := "csrrc", id := 119, codec := .i_csr, pseudo := [⟨.csrc, [.rdIs 0]⟩] }
  | .csrrwi => { name := "csrrwi", id := 120, codec := .i_csri, pseudo := [⟨.fsrmi, [.csrIs 0x002]⟩, ⟨.fsflagsi, [.csrIs 0x001]⟩, ⟨.csrwi, [.rdIs 0]⟩] }
  | .csrrsi => { name := "csrrsi", id := 121, codec := .i_csri, pseudo := [⟨.csrsi, [.rdIs 0]⟩] }
  | .csrrci => { name := "csrrci", id := 122, codec := .i_csri, pseudo := [⟨.csrci, [.rdIs 0]⟩] }
  | .uret => { name := "uret", id := 123, codec := .none }
  | .sret => { name := "sret", id := 124, codec := .none }
  | .mret => { name := "mret", id := 125, codec := .none }
  | .dret => { name := "dret", id := 126, codec := .none }
  | .wfi => { name := "wfi", id := 127, codec := .none }
  | .sfenceWInval => { name := "sfence.w.inval", id := 128, codec := .none }
  | .sfenceInvalIr => { name := "sfence.inval.ir", id := 129, codec := .none }
  | .sfenceVma => { name := "sfence.vma", id := 130, codec := .r_s12 }
  | .sinvalVma => { name := "sinval.vma", id := 131, codec := .r_s12 }
  | .hfenceVvma => { name := "hfence.vvma", id := 132, codec := .r_s12 }
  | .hfenceGvma => { name := "hfence.gvma", id := 133, codec := .r_s12 }
  | .hinvalVvma => { name := "hinval.vvma", id := 134, codec := .r_s12 }
  | .hinvalGvma => { name := "hinval.gvma", id := 135, codec := .r_s12 }
  | .hlvB => { name := "hlv.b", id := 136, codec := .r2 }
  | .hlvBu => { name := "hlv.bu", id := 137, codec := .r2 }
  | .hlvH => { name := "hlv.h", id := 138, codec := .r2 }
  | .hlvHu => { name := "hlv.hu", id := 139, codec := .r2 }
  | .hlvxHu => { name := "hlvx.hu", id := 140, codec := .r2 }
  | .hlvW => { name := "hlv.w", id := 141, codec := .r2 }
  | .hlvxWu => { name := "hlvx.wu", id := 142, codec := .r2 }
  | .hlvWu => { name := "hlv.wu", id := 143, codec := .r2 }
  | .hlvD => { name := "hlv.d", id := 144, codec := .r2 }
  | .hsvB => { name := "hsv.b", id := 145, codec := .r_s12 }
  | .hsvH => { name := "hsv.h", id := 146, codec := .r_s12 }
  | .hsvW => { name := "hsv.w", id := 147, codec := .r_s12 }
  | .hsvD => { name := "hsv.d", id := 148, codec := .r_s12 }
  | .cboInval => { name := "cbo.inval", id := 149, codec := .r_s1 }
  | .cboClean => { name := "cbo.clean", id := 150, codec := .r_s1 }
  | .cboFlush => { name := "cbo.flush", id := 151, codec := .r_s1 }
  | .cboZero => { name := "cbo.zero", id := 152, codec := .r_s1 }
  -- Floating point (42_float)
  | .flh => { name := "flh", id := 153, codec := .i, regs := rf_rdf }
  | .flw => { name := "flw", id := 154, codec := .i, regs := rf_rdf }
  | .fld => { name := "fld", id := 155, codec := .i, regs := rf_rdf }
  | .flq => { name := "flq", id := 156, codec := .i, regs := rf_rdf }
  | .fsh => { name := "fsh", id := 157, codec := .s, regs := rf_rs2f }
  | .fsw => { name := "fsw", id := 158, codec := .s, regs := rf_rs2f }
  | .fsd => { name := "fsd", id := 159, codec := .s, regs := rf_rs2f }
  | .fsq => { name := "fsq", id := 160, codec := .s, regs := rf_rs2f }
  | .fmaddS => { name := "fmadd.s", id := 161, codec := .r4_m, regs := rf_rdf_rs1f_rs2f_rs3f }
  | .fmsubS => { name := "fmsub.s", id := 162, codec := .r4_m, regs := rf_rdf_rs1f_rs2f_rs3f }
  | .fnmsubS => { name := "fnmsub.s", id := 163, codec := .r4_m, regs := rf_rdf_rs1f_rs2f_rs3f }
  | .fnmaddS => { name := "fnmadd.s", id := 164, codec := .r4_m, regs := rf_rdf_rs1f_rs2f_rs3f }
  | .faddS => { name := "fadd.s", id := 165, codec := .r_m, regs := rf_rdf_rs1f_rs2f_rs3f }
  | .fsubS => { name := "fsub.s", id := 166, codec := .r_m, regs := rf_rdf_rs1f_rs2f_rs3f }
  | .fmulS => { name := "fmul.s", id := 167, codec := .r_m, regs := rf_rdf_rs1f_rs2f_rs3f }
  | .fdivS => { name := "fdiv.s", id := 168, codec := .r_m, regs := rf_rdf_rs1f_rs2f_rs3f }
  | .fsqrtS => { name := "fsqrt.s", id := 169, codec := .r2_m, regs := rf_rdf_rs1f_rs2f_rs3f }
  | .fsgnjS => { name := "fsgnj.s", id := 170, codec := .r, regs := rf_rdf_rs1f_rs2f_rs3f, pseudo := [⟨.fmvS, [.rs2IsRs1]⟩] }
  | .fsgnjnS => { name := "fsgnjn.s", id := 171, codec := .r, regs := rf_rdf_rs1f_rs2f_rs3f, pseudo := [⟨.fnegS, [.rs2IsRs1]⟩] }
  | .fsgnjxS => { name := "fsgnjx.s", id := 172, codec := .r, regs := rf_rdf_rs1f_rs2f_rs3f, pseudo := [⟨.fabsS, [.rs2IsRs1]⟩] }
  | .fminS => { name := "fmin.s", id := 173, codec := .r, regs := rf_rdf_rs1f_rs2f_rs3f }
  | .fmaxS => { name := "fmax.s", id := 174, codec := .r, regs := rf_rdf_rs1f_rs2f_rs3f }
  | .fcvtSD => { name := "fcvt.s.d", id := 175, codec := .r2_m, regs := rf_rdf_rs1f_rs2f_rs3f }
  | .fcvtSH => { name := "fcvt.s.h", id := 176, codec := .r2_m, regs := rf_rdf_rs1f_rs2f_rs3f }
  | .fcvtSQ => { name := "fcvt.s.q", id := 177, codec := .r2_m, regs := rf_rdf_rs1f_rs2f_rs3f }
  | .feqS => { name := "feq.s", id := 178, codec := .r, regs := rf_rs1f_rs2f }
  | .fltS => { name := "flt.s", id := 179, codec := .r, regs := rf_rs1f_rs2f }
  | .fleS => { name := "fle.s", id := 180, codec := .r, regs := rf_rs1f_rs2f }
  | .fclassS => { name := "fclass.s", id := 181, codec := .r2, regs := rf_rs1f }
  | .fcvtWS => { name := "fcvt.w.s", id := 182, codec := .r2_m, regs := rf_rs1f }
  | .fcvtSW => { name := "fcvt.s.w", id := 183, codec := .r2_m, regs := rf_rdf }
  | .fcvtWuS => { name := "fcvt.wu.s", id := 184, codec := .r2_m, regs := rf_rs1f }
  | .fcvtSWu => { name := "fcvt.s.wu", id := 185, codec := .r2_m, regs := rf_rdf }
  | .fcvtLS => { name := "fcvt.l.s", id := 186, codec := .r2_m, regs := rf_rs1f }
  | .fcvtSL => { name := "fcvt.s.l", id := 187, codec := .r2_m, regs := rf_rdf }
  | .fcvtLuS => { name := "fcvt.lu.s", id := 188, codec := .r2_m, regs := rf_rs1f }
  | .fcvtSLu => { name := "fcvt.s.lu", id := 189, codec := .r2_m, regs := rf_rdf }
  | .fliS => { name := "fli.s", id := 190, codec := .fli, regs := rf_rdf }
  | .fminmS => { name := "fminm.s", id := 191, codec := .r, regs := rf_rdf_rs1f_rs2f_rs3f }
  | .fmaxmS => { name := "fmaxm.s", id := 192, codec := .r, regs := rf_rdf_rs1f_rs2f_rs3f }
  | .froundS => { name := "fround.s", id := 193, codec := .r2_m, regs := rf_rdf_rs1f_rs2f_rs3f }
  | .froundnxS => { name := "froundnx.s", id := 194, codec := .r2_m, regs := rf_rdf_rs1f_rs2f_rs3f }
  | .fleqS => { name := "fleq.s", id := 195, codec := .r, regs := rf_rs1f_rs2f }
  | .fltqS => { name := "fltq.s", id := 196, codec := .r, regs := rf_rs1f_rs2f }
  | .fmaddD => { name := "fmadd.d", id := 197, codec := .r4_m, regs := rf_rdf_rs1f_rs2f_rs3f }
  | .fmsubD => { name := "fmsub.d", id := 198, codec := .r4_m, regs := rf_rdf_rs1f_rs2f_rs3f }
  | .fnmsubD => { name := "fnmsub.d", id := 199, codec := .r4_m, regs := rf_rdf_rs1f_rs2f_rs3f }
  | .fnmaddD => { name := "fnmadd.d", id := 200, codec := .r4_m, regs := rf_rdf_rs1f_rs2f_rs3f }
  | .faddD => { name := "fadd.d", id := 201, codec := .r_m, regs := rf_rdf_rs1f_rs2f_rs3f }
  | .fsubD => { name := "fsub.d", id := 202, codec := .r_m, regs := rf_rdf_rs1f_rs2f_rs3f }
  | .fmulD => { name := "fmul.d", id := 203, codec := .r_m, regs := rf_rdf_rs1f_rs2f_rs3f }
  | .fdivD => { name := "fdiv.d", id := 204, codec := .r_m, regs := rf_rdf_rs1f_rs2f_rs3f }
  | .fsqrtD => { name := "fsqrt.d", id := 205, codec := .r2_m, regs := rf_rdf_rs1f_rs2f_rs3f }
  | .fsgnjD => { name := "fsgnj.d", id := 206, codec := .r, regs := rf_rdf_rs1f_rs2f_rs3f, pseudo := [⟨.fmvD, [.rs2IsRs1]⟩] }
  | .fsgnjnD => { name := "fsgnjn.d", id := 207, codec := .r, regs := rf_rdf_rs1f_rs2f_rs3f, pseudo := [⟨.fnegD, [.rs2IsRs1]⟩] }
  | .fsgnjxD => { name := "fsgnjx.d", id := 208, codec := .r, regs := rf_rdf_rs1f_rs2f_rs3f, pseudo := [⟨.fabsD, [.rs2IsRs1]⟩] }
  | .fminD => { name := "fmin.d", id := 209, codec := .r, regs := rf_rdf_rs1f_rs2f_rs3f }
  | .fmaxD => { name := "fmax.d", id := 210, codec := .r, regs := rf_rdf_rs1f_rs2f_rs3f }
  | .fcvtDS => { name := "fcvt.d.s", id := 211, codec := .r2_m, regs := rf_rdf_rs1f_rs2f_rs3f }
  | .fcvtDH => { name := "fcvt.d.h", id := 212, codec := .r2_m, regs := rf_rdf_rs1f_rs2f_rs3f }
  | .fcvtDQ => { name := "fcvt.d.q", id := 213, codec := .r2_m, regs := rf_rdf_rs1f_rs2f_rs3f }
  | .feqD => { name := "feq.d", id := 214, codec := .r, regs := rf_rs1f_rs2f }
  | .fltD => { name := "flt.d", id := 215, codec := .r, regs := rf_rs1f_rs2f }
  | .fleD => { name := "fle.d", id := 216, codec := .r, regs := rf_rs1f_rs2f }
  | .fclassD => { name := "fclass.d", id := 217, codec := .r2, regs := rf_rs1f }
  | .fcvtWD => { name := "fcvt.w.d", id := 218, codec := .r2_m, regs := rf_rs1f }
  | .fcvtDW => { name := "fcvt.d.w", id := 219, codec := .r2_m, regs := rf_rdf }
  | .fcvtWuD => { name := "fcvt.wu.d", id := 220, codec := .r2_m, regs := rf_rs1f }
  | .fcvtDWu => { name := "fcvt.d.wu", id := 221, codec := .r2_m, regs := rf_rdf }
  | .fcvtLD => { name := "fcvt.l.d", id := 222, codec := .r2_m, regs := rf_rs1f }
  | .fcvtDL => { name := "fcvt.d.l", id := 223, codec := .r2_m, regs := rf_rdf }
  | .fcvtLuD => { name := "fcvt.lu.d", id := 224, codec := .r2_m, regs := rf_rs1f }
  | .fcvtDLu => { name := "fcvt.d.lu", id := 225, codec := .r2_m, regs := rf_rdf }
  | .fliD => { name := "fli.d", id := 226, codec := .fli, regs := rf_rdf }
  | .fminmD => { name := "fminm.d", id := 227, codec := .r, regs := rf_rdf_rs1f_rs2f_rs3f }
  | .fmaxmD => { name := "fmaxm.d", id := 228, codec := .r, regs := rf_rdf_rs1f_rs2f_rs3f }
  | .froundD => { name := "fround.d", id := 229, codec := .r2_m, regs := rf_rdf_rs1f_rs2f_rs3f }
  | .froundnxD => { name := "froundnx.d", id := 230, codec := .r2_m, regs := rf_rdf_rs1f_rs2f_rs3f }
  | .fleqD => { name := "fleq.d", id := 231, codec := .r, regs := rf_rs1f_rs2f }
  | .fltqD => { name := "fltq.d", id := 232, codec := .r, regs := rf_rs1f_rs2f }
  | .fmaddH => { name := "fmadd.h", id := 233, codec := .r4_m, regs := rf_rdf_rs1f_rs2f_rs3f }
  | .fmsubH => { name := "fmsub.h", id := 234, codec := .r4_m, regs := rf_rdf_rs1f_rs2f_rs3f }
  | .fnmsubH => { name := "fnmsub.h", id := 235, codec := .r4_m, regs := rf_rdf_rs1f_rs2f_rs3f }
  | .fnmaddH => { name := "fnmadd.h", id := 236, codec := .r4_m, regs := rf_rdf_rs1f_rs2f_rs3f }
  | .faddH => { name := "fadd.h", id := 237, codec := .r_m, regs := rf_rdf_rs1f_rs2f_rs3f }
  | .fsubH => { name := "fsub.h", id := 238, codec := .r_m, regs := rf_rdf_rs1f_rs2f_rs3f }
  | .fmulH => { name := "fmul.h", id := 239, codec := .r_m, regs := rf_rdf_rs1f_rs2f_rs3f }
  | .fdivH => { name := "fdiv.h", id := 240, codec := .r_m, regs := rf_rdf_rs1f_rs2f_rs3f }
  | .fsqrtH => { name := "fsqrt.h", id := 241, codec := .r2_m, regs := rf_rdf_rs1f_rs2f_rs3f }
  | .fsgnjH => { name := "fsgnj.h", id := 242, codec := .r, regs := rf_rdf_rs1f_rs2f_rs3f, pseudo := [⟨.fmvH, [.rs2IsRs1]⟩] }
  | .fsgnjnH => { name := "fsgnjn.h", id := 243, codec := .r, regs := rf_rdf_rs1f_rs2f_rs3f, pseudo := [⟨.fnegH, [.rs2IsRs1]⟩] }
  | .fsgnjxH => { name := "fsgnjx.h", id := 244, codec := .r, regs := rf_rdf_rs1f_rs2f_rs3f, pseudo := [⟨.fabsH, [.rs2IsRs1]⟩] }
  | .fminH => { name := "fmin.h", id := 245, codec := .r, regs := rf_rdf_rs1f_rs2f_rs3f }
  | .fmaxH => { name := "fmax.h", id := 246, codec := .r, regs := rf_rdf_rs1f_rs2f_rs3f }
  | .fcvtHS => { name := "fcvt.h.s", id := 247, codec := .r2_m, regs := rf_rdf_rs1f_rs2f_rs3f }
  | .fcvtHD => { name := "fcvt.h.d", id := 248, codec := .r2_m, regs := rf_rdf_rs1f_rs2f_rs3f }
  | .fcvtHQ => { name := "fcvt.h.q", id := 249, codec := .r2_m, regs := rf_rdf_rs1f_rs2f_rs3f }
  | .feqH => { name := "feq.h", id := 250, codec := .r, regs := rf_rs1f_rs2f }
  | .fltH => { name := "flt.h", id := 251, codec := .r, regs := rf_rs1f_rs2f }
  | .fleH => { name := "fle.h", id := 252, codec := .r, regs := rf_rs1f_rs2f }
  | .fclassH => { name := "fclass.h", id := 253, codec := .r2, regs := rf_rs1f }
  | .fcvtWH => { name := "fcvt.w.h", id := 254, codec := .r2_m, regs := rf_rs1f }
  | .fcvtHW => { name := "fcvt.h.w", id := 255, codec := .r2_m, regs := rf_rdf }
  | .fcvtWuH => { name := "fcvt.wu.h", id := 256, codec := .r2_m, regs := rf_rs1f }
  | .fcvtHWu => { name := "fcvt.h.wu", id := 257, codec := .r2_m, regs := rf_rdf }
  | .fcvtLH => { name := "fcvt.l.h", id := 258, codec := .r2_m, regs := rf_rs1f }
  | .fcvtHL => { name := "fcvt.h.l", id := 259, codec := .r2_m, regs := rf_rdf }
  | .fcvtLuH => { name := "fcvt.lu.h", id := 260, codec := .r2_m, regs := rf_rs1f }
  | .fcvtHLu => { name := "fcvt.h.lu", id := 261, codec := .r2_m, regs := rf_rdf }
  | .fliH => { name := "fli.h", id := 262, codec := .fli, regs := rf_rdf }
  | .fminmH => { name := "fminm.h", id := 263, codec := .r, regs := rf_rdf_rs1f_rs2f_rs3f }
  | .fmaxmH => { name := "fmaxm.h", id := 264, codec := .r, regs := rf_rdf_rs1f_rs2f_rs3f }
  | .froundH => { name := "fround.h", id := 265, codec := .r2_m, regs := rf_rdf_rs1f_rs2f_rs3f }
  | .froundnxH => { name := "froundnx.h", id := 266, codec := .r2_m, regs := rf_rdf_rs1f_rs2f_rs3f }
  | .fleqH => { name := "fleq.h", id := 267, codec := .r, regs := rf_rs1f_rs2f }
  | .fltqH => { name := "fltq.h", id := 268, codec := .r, regs := rf_rs1f_rs2f }
  | .fmaddQ => { name := "fmadd.q", id := 269, codec := .r4_m, regs := rf_rdf_rs1f_rs2f_rs3f }
  | .fmsubQ => { name := "fmsub.q", id := 270, codec := .r4_m, regs := rf_rdf_rs1f_rs2f_rs3f }
  | .fnmsubQ => { name := "fnmsub.q", id := 271, codec := .r4_m, regs := rf_rdf_rs1f_rs2f_rs3f }
  | .fnmaddQ => { name := "fnmadd.q", id := 272, codec := .r4_m, regs := rf_rdf_rs1f_rs2f_rs3f }
  | .faddQ => { name := "fadd.q", id := 273, codec := .r_m, regs := rf_rdf_rs1f_rs2f_rs3f }
  | .fsubQ => { name := "fsub.q", id := 274, codec := .r_m, regs := rf_rdf_rs1f_rs2f_rs3f }
  | .fmulQ => { name := "fmul.q", id := 275, codec := .r_m, regs := rf_rdf_rs1f_rs2f_rs3f }
  | .fdivQ => { name := "fdiv.q", id := 276, codec := .r_m, regs := rf_rdf_rs1f_rs2f_rs3f }
  | .fsqrtQ => { name := "fsqrt.q", id := 277, codec := .r2_m, regs := rf_rdf_rs1f_rs2f_rs3f }
  | .fsgnjQ => { name := "fsgnj.q", id := 278, codec := .r, regs := rf_rdf_rs1f_rs2f_rs3f, pseudo := [⟨.fmvQ, [.rs2IsRs1]⟩] }
  | .fsgnjnQ => { name := "fsgnjn.q", id := 279, codec := .r, regs := rf_rdf_rs1f_rs2f_rs3f, pseudo := [⟨.fnegQ, [.rs2IsRs1]⟩] }
  | .fsgnjxQ => { name := "fsgnjx.q", id := 280, codec := .r, regs := rf_rdf_rs1f_rs2f_rs3f, pseudo := [⟨.fabsQ, [.rs2IsRs1]⟩] }
  | .fminQ => { name := "fmin.q", id := 281, codec := .r, regs := rf_rdf_rs1f_rs2f_rs3f }
  | .fmaxQ => { name := "fmax.q", id := 282, codec := .r, regs := rf_rdf_rs1f_rs2f_rs3f }
  | .fcvtQS => { name := "fcvt.q.s", id := 283, codec := .r2_m, regs := rf_rdf_rs1f_rs2f_rs3f }
  | .fcvtQD => { name := "fcvt.q.d", id := 284, codec := .r2_m, regs := rf_rdf_rs1f_rs2f_rs3f }
  | .fcvtQH => { name := "fcvt.q.h", id := 285, codec := .r2_m, regs := rf_rdf_rs1f_rs2f_rs3f }
  | .feqQ => { name := "feq.q", id := 286, codec := .r, regs := rf_rs1f_rs2f }
  | .fltQ => { name := "flt.q", id := 287, codec := .r, regs := rf_rs1f_rs2f }
  | .fleQ => { name := "fle.q", id := 288, codec := .r, regs := rf_rs1f_rs2f }
  | .fclassQ => { name := "fclass.q", id := 289, codec := .r2, regs := rf_rs1f }
  | .fcvtWQ => { name := "fcvt.w.q", id := 290, codec := .r2_m, regs := rf_rs1f }
  | .fcvtQW => { name := "fcvt.q.w", id := 291, codec := .r2_m, regs := rf_rdf }
  | .fcvtWuQ => { name := "fcvt.wu.q", id := 292, codec := .r2_m, regs := rf_rs1f }
  | .fcvtQWu => { name := "fcvt.q.wu", id := 293, codec := .r2_m, regs := rf_rdf }
  | .fcvtLQ => { name := "fcvt.l.q", id := 294, codec := .r2_m, regs := rf_rs1f }
  | .fcvtQL => { name := "fcvt.q.l", id := 295, codec := .r2_m, regs := rf_rdf }
  | .fcvtLuQ => { name := "fcvt.lu.q", id := 296, codec := .r2_m, regs := rf_rs1f }
  | .fcvtQLu => { name := "fcvt.q.lu", id := 297, codec := .r2_m, regs := rf_rdf }
  | .fliQ => { name := "fli.q", id := 298, codec := .fli, regs := rf_rdf }
  | .fminmQ => { name := "fminm.q", id := 299, codec := .r, regs := rf_rdf_rs1f_rs2f_rs3f }
  | .fmaxmQ => { name := "fmaxm.q", id := 300, codec := .r, regs := rf_rdf_rs1f_rs2f_rs3f }
  | .froundQ => { name := "fround.q", id := 301, codec := .r2_m, regs := rf_rdf_rs1f_rs2f_rs3f }
  | .froundnxQ => { name := "froundnx.q", id := 302, codec := .r2_m, regs := rf_rdf_rs1f_rs2f_rs3f }
  | .fleqQ => { name := "fleq.q", id := 303, codec := .r, regs := rf_rs1f_rs2f }
  | .fltqQ => { name := "fltq.q", id := 304, codec := .r, regs := rf_rs1f_rs2f }
  | .fmvXW => { name := "fmv.x.w", id := 305, codec := .r2, regs := rf_rs1f }
  | .fmvXD => { name := "fmv.x.d", id := 306, codec := .r2, regs := rf_rs1f }
  | .fmvXH => { name := "fmv.x.h", id := 307, codec := .r2, regs := rf_rs1f }
  | .fmvWX => { name := "fmv.w.x", id := 308, codec := .r2, regs := rf_rdf }
  | .fmvDX => { name := "fmv.d.x", id := 309, codec := .r2, regs := rf_rdf }
  | .fmvHX => { name := "fmv.h.x", id := 310, codec := .r2, regs := rf_rdf }
  | .fcvtmodWD => { name := "fcvtmod.w.d", id := 311, codec := .r2, regs := rf_rs1f }
  | .fmvhXD => { name := "fmvh.x.d", id := 312, codec := .r2, regs := rf_rs1f }
  | .fmvpDX => { name := "fmvp.d.x", id := 313, codec := .r, regs := rf_rdf }
  | .fmvhXQ => { name := "fmvh.x.q", id := 314, codec := .r2, regs := rf_rs1f }
  | .fmvpQX => { name := "fmvp.q.x", id := 315, codec := .r, regs := rf_rdf }
  -- Bit manipulation and scalar crypto (43_bitmanip_crypto)
  | .sh1add => { name := "sh1add", id := 316, codec := .r }
  | .sh2add => { name := "sh2add", id := 317, codec := .r }
  | .sh3add => { name := "sh3add", id := 318, codec := .r }
  | .addUw => { name := "add.uw", id := 319, codec := .r, pseudo := [⟨.zextW, [.rs2Is 0]⟩] }
  | .sh1addUw => { name := "sh1add.uw", id := 320, codec := .r }
  | .sh2addUw => { name := "sh2add.uw", id := 321, codec := .r }
  | .sh3addUw => { name := "sh3add.uw", id := 322, codec := .r }
  | .slliUw => { name := "slli.uw", id := 323, codec := .i_sh6 }
  | .andn => { name := "andn", id := 324, codec := .r }
  | .orn => { name := "orn", id := 325, codec := .r }
  | .xnor => { name := "xnor", id := 326, codec := .r }
  | .clz => { name := "clz", id := 327, codec := .r2 }
  | .ctz => { name := "ctz", id := 328, codec := .r2 }
  | .cpop => { name := "cpop", id := 329, codec := .r2 }
  | .sextB => { name := "sext.b", id := 330, codec := .r2 }
  | .sextH => { name := "sext.h", id := 331, codec := .r2 }
  | .max => { name := "max", id := 332, codec := .r }
  | .maxu => { name := "maxu", id := 333, codec := .r }
  | .min => { name := "min", id := 334, codec := .r }
  | .minu => { name := "minu", id := 335, codec := .r }
  | .rol => { name := "rol", id := 336, codec := .r }
  | .ror => { name := "ror", id := 337, codec := .r }
  | .rori => { name := "rori", id := 338, codec := .i_sh }
  | .orcB => { name := "orc.b", id := 339, codec := .r2 }
  | .rev8 => { name := "rev8", id := 340, codec := .r2 }
  | .zextH => { name := "zext.h", id := 341, codec := .r2 }
  | .clzw => { name := "clzw", id := 342, codec := .r2 }
  | .ctzw => { name := "ctzw", id := 343, codec := .r2 }
  | .cpopw => { name := "cpopw", id := 344, codec := .r2 }
  | .rolw => { name := "rolw", id := 345, codec := .r }
  | .rorw => { name := "rorw", id := 346, codec := .r }
  | .roriw => { name := "roriw", id := 347, codec := .i_sh5 }
  | .clmul => { name := "clmul", id := 348, codec := .r }
  | .clmulr => { name := "clmulr", id := 349, codec := .r }
  | .clmulh => { name := "clmulh", id := 350, codec := .r }
  | .bclr => { name := "bclr", id := 351, codec := .r }
  | .bext => { name := "bext", id := 352, codec := .r }
  | .binv => { name := "binv", id := 353, codec := .r }
  | .bset => { name := "bset", id := 354, codec := .r }
  | .bclri => { name := "bclri", id := 355, codec := .i_sh }
  | .bexti => { name := "bexti", id := 356, codec := .i_sh }
  | .binvi => { name := "binvi", id := 357, codec := .i_sh }
  | .bseti => { name := "bseti", id := 358, codec := .i_sh }
  | .pack => { name := "pack", id := 359, codec := .r }
  | .packh => { name := "packh", id := 360, codec := .r }
  | .packw => { name := "packw", id := 361, codec := .r }
  | .brev8 => { name := "brev8", id := 362, codec := .r2 }
  | .zip => { name := "zip", id := 363, codec := .r2 }
  | .unzip => { name := "unzip", id := 364, codec := .r2 }
  | .xperm4 => { name := "xperm4", id := 365, codec := .r }
  | .xperm8 => { name := "xperm8", id := 366, codec := .r }
  | .czeroEqz => { name := "czero.eqz", id := 367, codec := .r }
  | .czeroNez => { name := "czero.nez", id := 368, codec := .r }
  | .aes32esi => { name := "aes32esi", id := 369, codec := .k_bs }
  | .aes32esmi => { name := "aes32esmi", id := 370, codec := .k_bs }
  | .aes32dsi => { name := "aes32dsi", id := 371, codec := .k_bs }
  | .aes32dsmi => { name := "aes32dsmi", id := 372, codec := .k_bs }
  | .sm4ed => { name := "sm4ed", id := 373, codec := .k_bs }
  | .sm4ks => { name := "sm4ks", id := 374, codec := .k_bs }
  | .aes64es => { name := "aes64es", id := 375, codec := .r }
  | .aes64esm => { name := "aes64esm", id := 376, codec := .r }
  | .aes64ds => { name := "aes64ds", id := 377, codec := .r }
  | .aes64dsm => { name := "aes64dsm", id := 378, codec := .r }
  | .aes64ks2 => { name := "aes64ks2", id := 379, codec := .r }
  | .aes64im => { name := "aes64im", id := 380, codec := .r2 }
  | .aes64ks1i => { name := "aes64ks1i", id := 381, codec := .k_rnum }
  | .sha256sum0 => { name := "sha256sum0", id := 382, codec := .r2 }
  | .sha256sum1 => { name := "sha256sum1", id := 383, codec := .r2 }
  | .sha256sig0 => { name := "sha256sig0", id := 384, codec := .r2 }
  | .sha256sig1 => { name := "sha256sig1", id := 385, codec := .r2 }
  | .sha512sum0 => { name := "sha512sum0", id := 386, codec := .r2 }
  | .sha512sum1 => { name := "sha512sum1", id := 387, codec := .r2 }
  | .sha512sig0 => { name := "sha512sig0", id := 388, codec := .r2 }
  | .sha512sig1 => { name := "sha512sig1", id := 389, codec := .r2 }
  | .sha512sum0r => { name := "sha512sum0r", id := 390, codec := .r }
  | .sha512sum1r => { name := "sha512sum1r", id := 391, codec := .r }
  | .sha512sig0l => { name := "sha512sig0l", id := 392, codec := .r }
  | .sha512sig1l => { name := "sha512sig1l", id := 393, codec := .r }
  | .sha512sig0h => { name := "sha512sig0h", id := 394, codec := .r }
  | .sha512sig1h => { name := "sha512sig1h", id := 395, codec := .r }
  | .sm3p0 => { name := "sm3p0", id := 396, codec := .r2 }
  | .sm3p1 => { name := "sm3p1", id := 397, codec := .r2 }
  -- Compressed (44_compressed)
  | .cAddi4spn => { name := "c.addi4spn", id := 398, codec := .ciw_4spn, length := 2, target32 := some .addi, target64 := some .addi, target128 := some .addi, nonzeroImm := true }
  | .cFld => { name := "c.fld", id := 399, codec := .cl_ld, length := 2, regs := rf_rdf, target32 := some .fld, target64 := some .fld }
  | .cLq => { name := "c.lq", id := 400, codec := .cl_lq, length := 2, target128 := some .lq }
  | .cLw => { name := "c.lw", id := 401, codec := .cl_lw, length := 2, target32 := some .lw, target64 := some .lw, target128 := some .lw }
  | .cFlw => { name := "c.flw", id := 402, codec := .cl_lw, length := 2, regs := rf_rdf, target32 := some .flw }
  | .cLd => { name := "c.ld", id := 403, codec := .cl_ld, length := 2, target64 := some .ld, target128 := some .ld }
  | .cLbu => { name := "c.lbu", id := 404, codec := .zcb_lb, length := 2 }
  | .cLhu => { name := "c.lhu", id := 405, codec := .zcb_lh, length := 2 }
  | .cLh => { name := "c.lh", id := 406, codec := .zcb_lh, length := 2 }
  | .cSb => { name := "c.sb", id := 407, codec := .zcb_sb, length := 2 }
  | .cSh => { name := "c.sh", id := 408, codec := .zcb_sh, length := 2 }
  | .cFsd => { name := "c.fsd", id := 409, codec := .cs_sd, length := 2, regs := rf_rs2f, target32 := some .fsd, target64 := some .fsd }
  | .cSq => { name := "c.sq", id := 410, codec := .cs_sq, length := 2, target128 := some .sq }
  | .cSw => { name := "c.sw", id := 411, codec := .cs_sw, length := 2, target32 := some .sw, target64 := some .sw, target128 := some .sw }
  | .cFsw => { name := "c.fsw", id := 412, codec := .cs_sw, length := 2, regs := rf_rs2f, target32 := some .fsw }
  | .cSd => { name := "c.sd", id := 413, codec := .cs_sd, length := 2, target64 := some .sd, target128 := some .sd }
  | .cNop => { name := "c.nop", id := 414, codec := .ci_none, length := 2, target32 := some .addi, target64 := some .addi, target128 := some .addi }
  | .cAddi => { name := "c.addi", id := 415, codec := .ci, length := 2, target32 := some .addi, target64 := some .addi, target128 := some .addi, nonzeroImm := true }
  | .cJal => { name := "c.jal", id := 416, codec := .cj_jal, length := 2, target32 := some .jal }
  | .cAddiw => { name := "c.addiw", id := 417, codec := .ci, length := 2, target64 := some .addiw, target128 := some .addiw }
  | .cLi => { name := "c.li", id := 418, codec := .ci_li, length := 2, target32 := some .addi, target64 := some .addi, target128 := some .addi }
  | .cAddi16sp => { name := "c.addi16sp", id := 419, codec := .ci_16sp, length := 2, target32 := some .addi, target64 := some .addi, target128 := some .addi, nonzeroImm := true }
  | .cLui => { name := "c.lui", id := 420, codec := .ci_lui, length := 2, target32 := some .lui, target64 := some .lui, target128 := some .lui, nonzeroImm := true }
  | .cSrli => { name := "c.srli", id := 421, codec := .cb_sh, length := 2, target32 := some .srli, target64 := some .srli, target128 := some .srli, nonzeroImm := true }
  | .cSrai => { name := "c.srai", id := 422, codec := .cb_sh, length := 2, target32 := some .srai, target64 := some .srai, target128 := some .srai, nonzeroImm := true }
  | .cAndi => { name := "c.andi", id := 423, codec := .cb_imm, length := 2, target32 := some .andi, target64 := some .andi, target128 := some .andi }
  | .cSub => { name := "c.sub", id := 424, codec := .cs, length := 2, target32 := some .sub, target64 := some .sub, target128 := some .sub }
  | .cXor => { name := "c.xor", id := 425, codec := .cs, length := 2, target32 := some .xor, target64 := some .xor, target128 := some .xor }
  | .cOr => { name := "c.or", id := 426, codec := .cs, length := 2, target32 := some .or, target64 := some .or, target128 := some .or }
  | .cAnd => { name := "c.and", id := 427, codec := .cs, length := 2, target32 := some .and, target64 := some .and, target128 := some .and }
  | .cSubw => { name := "c.subw", id := 428, codec := .cs, length := 2, target64 := some .subw, target128 := some .subw }
  | .cAddw => { name := "c.addw", id := 429, codec := .cs, length := 2, target64 := some .addw, target128 := some .addw }
  | .cMul => { name := "c.mul", id := 430, codec := .cs, length := 2 }
  | .cZextB => { name := "c.zext.b", id := 431, codec := .zcb_ext, length := 2 }
  | .cSextB => { name := "c.sext.b", id := 432, codec := .zcb_ext, length := 2 }
  | .cZextH => { name := "c.zext.h", id := 433, codec := .zcb_ext, length := 2 }
  | .cSextH => { name := "c.sext.h", id := 434, codec := .zcb_ext, length := 2 }
  | .cZextW => { name := "c.zext.w", id := 435, codec := .zcb_ext, length := 2 }
  | .cNot => { name := "c.not", id := 436, codec := .zcb_ext, length := 2 }
  | .cJ => { name := "c.j", id := 437, codec := .cj, length := 2, target32 := some .jal, target64 := some .jal, target128 := some .jal }
  | .cBeqz => { name := "c.beqz", id := 438, codec := .cb, length := 2, target32 := some .beq, target64 := some .beq, target128 := some .beq }
  | .cBnez => { name := "c.bnez", id := 439, codec := .cb, length := 2, target32 := some .bne, target64 := some .bne, target128 := some .bne }
  | .cSlli => { name := "c.slli", id := 440, codec := .ci_sh, length := 2, target32 := some .slli, target64 := some .slli, target128 := some .slli, nonzeroImm := true }
  | .cFldsp => { name := "c.fldsp", id := 441, codec := .ci_ldsp, length := 2, regs := rf_rdf, target32 := some .fld, target64 := some .fld }
  | .cLqsp => { name := "c.lqsp", id := 442, codec := .ci_lqsp, length := 2, target128 := some .lq }
  | .cLwsp => { name := "c.lwsp", id := 443, codec := .ci_lwsp, length := 2, target32 := some .lw, target64 := some .lw, target128 := some .lw }
  | .cFlwsp => { name := "c.flwsp", id := 444, codec := .ci_lwsp, length := 2, regs := rf_rdf, target32 := some .flw }
  | .cLdsp => { name := "c.ldsp", id := 445, codec := .ci_ldsp, length := 2, target64 := some .ld, target128 := some .ld }
  | .cJr => { name := "c.jr", id := 446, codec := .cr_jr, length := 2, target32 := some .jalr, target64 := some .jalr, target128 := some .jalr }
  | .cMv => { name := "c.mv", id := 447, codec := .cr_mv, length := 2, target32 := some .addi, target64 := some .addi, target128 := some .addi }
  | .cEbreak => { name := "c.ebreak", id := 448, codec := .ci_none, length := 2, target32 := some .ebreak, target64 := some .ebreak, target128 := some .ebreak }
  | .cJalr => { name := "c.jalr", id := 449, codec := .cr_jalr, length := 2, target32 := some .jalr, target64 := some .jalr, target128 := some .jalr }
  | .cAdd => { name := "c.add", id := 450, codec := .cr, length := 2, target32 := some .add, target64 := some .add, target128 := some .add }
  | .cFsdsp => { name := "c.fsdsp", id := 451, codec := .css_sdsp, length := 2, regs := rf_rs2f, target32 := some .fsd, target64 := some .fsd }
  | .cSqsp => { name := "c.sqsp", id := 452, codec := .css_sqsp, length := 2, target128 := some .sq }
  | .cSwsp => { name := "c.swsp", id := 453, codec := .css_swsp, length := 2, target32 := some .sw, target64 := some .sw, target128 := some .sw }
  | .cFswsp => { name := "c.fswsp", id := 454, codec := .css_swsp, length := 2, regs := rf_rs2f, target32 := some .fsw }
  | .cSdsp => { name := "c.sdsp", id := 455, codec := .css_sdsp, length := 2, target64 := some .sd, target128 := some .sd }
  | .cmPush => { name := "cm.push", id := 456, codec := .zcmp_push, length := 2 }
  | .cmPop => { name := "cm.pop", id := 457, codec := .zcmp_pop, length := 2 }
  | .cmPopretz => { name := "cm.popretz", id := 458, codec := .zcmp_pop, length := 2 }
  | .cmPopret => { name := "cm.popret", id := 459, codec := .zcmp_pop, length := 2 }
  | .cmMvsa01 => { name := "cm.mvsa01", id := 460, codec := .zcmp_mv, length := 2 }
  | .cmMva01s => { name := "cm.mva01s", id := 461, codec := .zcmp_mv, length := 2 }
  | .cmJt => { name := "cm.jt", id := 462, codec := .zcmt_jt, length := 2 }
  | .cmJalt => { name := "cm.jalt", id := 463, codec := .zcmt_jt, length := 2 }
  -- Vector arithmetic (45_vector_arith)
  | .vsetvli => { name := "vsetvli", id := 464, codec := .vsetvli }
  | .vsetivli => { name := "vsetivli", id := 465, codec := .vsetivli }
  | .vsetvl => { name := "vsetvl", id := 466, codec := .r }
  | .vaddVv => { name := "vadd.vv", id := 467, codec := .v_r, regs := rf_rdv_rs1v_rs2v }
  | .vaddVx => { name := "vadd.vx", id := 468, codec := .v_r, regs := rf_rdv_rs2v }
  | .vaddVi => { name := "vadd.vi", id := 469, codec := .v_i, regs := rf_rdv_rs2v }
  | .vsubVv => { name := "vsub.vv", id := 470, codec := .v_r, regs := rf_rdv_rs1v_rs2v }
  | .vsubVx => { name := "vsub.vx", id := 471, codec := .v_r, regs := rf_rdv_rs2v }
  | .vrsubVx => { name := "vrsub.vx", id := 472, codec := .v_r, regs := rf_rdv_rs2v, pseudo := [⟨.vnegV, [.rs1Is 0]⟩] }
  | .vrsubVi => { name := "vrsub.vi", id := 473, codec := .v_i, regs := rf_rdv_rs2v }
  | .vminuVv => { name := "vminu.vv", id := 474, codec := .v_r, regs := rf_rdv_rs1v_rs2v }
  | .vminuVx => { name := "vminu.vx", id := 475, codec := .v_r, regs := rf_rdv_rs2v }
  | .vminVv => { name := "vmin.vv", id := 476, codec := .v_r, regs := rf_rdv_rs1v_rs2v }
  | .vminVx => { name := "vmin.vx", id := 477, codec := .v_r, regs := rf_rdv_rs2v }
  | .vmaxuVv => { name := "vmaxu.vv", id := 478, codec := .v_r, regs := rf_rdv_rs1v_rs2v }
  | .vmaxuVx => { name := "vmaxu.vx", id := 479, codec := .v_r, regs := rf_rdv_rs2v }
  | .vmaxVv => { name := "vmax.vv", id := 480, codec := .v_r, regs := rf_rdv_rs1v_rs2v }
  | .vmaxVx => { name := "vmax.vx", id := 481, codec := .v_r, regs := rf_rdv_rs2v }
  | .vandVv => { name := "vand.vv", id := 482, codec := .v_r, regs := rf_rdv_rs1v_rs2v }
  | .vandVx => { name := "vand.vx", id := 483, codec := .v_r, regs := rf_rdv_rs2v }
  | .vandVi => { name := "vand.vi", id := 484, codec := .v_i, regs := rf_rdv_rs2v }
  | .vorVv => { name := "vor.vv", id := 485, codec := .v_r, regs := rf_rdv_rs1v_rs2v }
  | .vorVx => { name := "vor.vx", id := 486, codec := .v_r, regs := rf_rdv_rs2v }
  | .vorVi => { name := "vor.vi", id := 487, codec := .v_i, regs := rf_rdv_rs2v }
  | .vxorVv => { name := "vxor.vv", id := 488, codec := .v_r, regs := rf_rdv_rs1v_rs2v }
  | .vxorVx => { name := "vxor.vx", id := 489, codec := .v_r, regs := rf_rdv_rs2v }
  | .vxorVi => { name := "vxor.vi", id := 490, codec := .v_i, regs := rf_rdv_rs2v, pseudo := [⟨.vnotV, [.immIs (-1)]⟩] }
  | .vrgatherVv => { name := "vrgather.vv", id := 491, codec := .v_r, regs := rf_rdv_rs1v_rs2v }
  | .vrgatherVx => { name := "vrgather.vx", id := 492, codec := .v_r, regs := rf_rdv_rs2v }
  | .vrgatherVi => { name := "vrgather.vi", id := 493, codec := .v_iu, regs := rf_rdv_rs2v }
  | .vslidedownVx => { name := "vslidedown.vx", id := 494, codec := .v_r, regs := rf_rdv_rs2v }
  | .vslidedownVi => { name := "vslidedown.vi", id := 495, codec := .v_iu, regs := rf_rdv_rs2v }
  | .vmseqVv => { name := "vmseq.vv", id := 496, codec := .v_r, regs := rf_rdv_rs1v_rs2v }
  | .vmseqVx => { name := "vmseq.vx", id := 497, codec := .v_r, regs := rf_rdv_rs2v }
  | .vmseqVi => { name := "vmseq.vi", id := 498, codec := .v_i, regs := rf_rdv_rs2v }
  | .vmsneVv => { name := "vmsne.vv", id := 499, codec := .v_r, regs := rf_rdv_rs1v_rs2v }
  | .vmsneVx => { name := "vmsne.vx", id := 500, codec := .v_r, regs := rf_rdv_rs2v }
  | .vmsneVi => { name := "vmsne.vi", id := 501, codec := .v_i, regs := rf_rdv_rs2v }
  | .vmsltuVv => { name := "vmsltu.vv", id := 502, codec := .v_r, regs := rf_rdv_rs1v_rs2v }
  | .vmsltuVx => { name := "vmsltu.vx", id := 503, codec := .v_r, regs := rf_rdv_rs2v }
  | .vmsltVv => { name := "vmslt.vv", id := 504, codec := .v_r, regs := rf_rdv_rs1v_rs2v }
  | .vmsltVx => { name := "vmslt.vx", id := 505, codec := .v_r, regs := rf_rdv_rs2v }
  | .vmsleuVv => { name := "vmsleu.vv", id := 506, codec := .v_r, regs := rf_rdv_rs1v_rs2v }
  | .vmsleuVx => { name := "vmsleu.vx", id := 507, codec := .v_r, regs := rf_rdv_rs2v }
  | .vmsleuVi => { name := "vmsleu.vi", id := 508, codec := .v_i, regs := rf_rdv_rs2v }
  | .vmsleVv => { name := "vmsle.vv", id := 509, codec := .v_r, regs := rf_rdv_rs1v_rs2v }
  | .vmsleVx => { name := "vmsle.vx", id := 510, codec := .v_r, regs := rf_rdv_rs2v }
  | .vmsleVi => { name := "vmsle.vi", id := 511, codec := .v_i, regs := rf_rdv_rs2v }
  | .vmsgtuVx => { name := "vmsgtu.vx", id := 512, codec := .v_r, regs := rf_rdv_rs2v }
  | .vmsgtuVi => { name := "vmsgtu.vi", id := 513, codec := .v_i, regs := rf_rdv_rs2v }
  | .vmsgtVx => { name := "vmsgt.vx", id := 514, codec := .v_r, regs := rf_rdv_rs2v }
  | .vmsgtVi => { name := "vmsgt.vi", id := 515, codec := .v_i, regs := rf_rdv_rs2v }
  | .vsadduVv => { name := "vsaddu.vv", id := 516, codec := .v_r, regs := rf_rdv_rs1v_rs2v }
  | .vsadduVx => { name := "vsaddu.vx", id := 517, codec := .v_r, regs := rf_rdv_rs2v }
  | .vsadduVi => { name := "vsaddu.vi", id := 518, codec := .v_i, regs := rf_rdv_rs2v }
  | .vsaddVv => { name := "vsadd.vv", id := 519, codec := .v_r, regs := rf_rdv_rs1v_rs2v }
  | .vsaddVx => { name := "vsadd.vx", id := 520, codec := .v_r, regs := rf_rdv_rs2v }
  | .vsaddVi => { name := "vsadd.vi", id := 521, codec := .v_i, regs := rf_rdv_rs2v }
  | .vssubuVv => { name := "vssubu.vv", id := 522, codec := .v_r, regs := rf_rdv_rs1v_rs2v }
  | .vssubuVx => { name := "vssubu.vx", id := 523, codec := .v_r, regs := rf_rdv_rs2v }
  | .vssubVv => { name := "vssub.vv", id := 524, codec := .v_r, regs := rf_rdv_rs1v_rs2v }
  | .vssubVx => { name := "vssub.vx", id := 525, codec := .v_r, regs := rf_rdv_rs2v }
  | .vsllVv => { name := "vsll.vv", id := 526, codec := .v_r, regs := rf_rdv_rs1v_rs2v }
  | .vsllVx => { name := "vsll.vx", id := 527, codec := .v_r, regs := rf_rdv_rs2v }
  | .vsllVi => { name := "vsll.vi", id := 528, codec := .v_iu, regs := rf_rdv_rs2v }
  | .vsmulVv => { name := "vsmul.vv", id := 529, codec := .v_r, regs := rf_rdv_rs1v_rs2v }
  | .vsmulVx => { name := "vsmul.vx", id := 530, codec := .v_r, regs := rf_rdv_rs2v }
  | .vsrlVv => { name := "vsrl.vv", id := 531, codec := .v_r, regs := rf_rdv_rs1v_rs2v }
  | .vsrlVx => { name := "vsrl.vx", id := 532, codec := .v_r, regs := rf_rdv_rs2v }
  | .vsrlVi => { name := "vsrl.vi", id := 533, codec := .v_iu, regs := rf_rdv_rs2v }
  | .vsraVv => { name := "vsra.vv", id := 534, codec := .v_r, regs := rf_rdv_rs1v_rs2v }
  | .vsraVx => { name := "vsra.vx", id := 535, codec := .v_r, regs := rf_rdv_rs2v }
  | .vsraVi => { name := "vsra.vi", id := 536, codec := .v_iu, regs := rf_rdv_rs2v }
  | .vssrlVv => { name := "vssrl.vv", id := 537, codec := .v_r, regs := rf_rdv_rs1v_rs2v }
  | .vssrlVx => { name := "vssrl.vx", id := 538, codec := .v_r, regs := rf_rdv_rs2v }
  | .vssrlVi => { name := "vssrl.vi", id := 539, codec := .v_iu, regs := rf_rdv_rs2v }
  | .vssraVv => { name := "vssra.vv", id := 540, codec := .v_r, regs := rf_rdv_rs1v_rs2v }
  | .vssraVx => { name := "vssra.vx", id := 541, codec := .v_r, regs := rf_rdv_rs2v }
  | .vssraVi => { name := "vssra.vi", id := 542, codec := .v_iu, regs := rf_rdv_rs2v }
  | .vnsrlWv => { name := "vnsrl.wv", id := 543, codec := .v_r, regs := rf_rdv_rs1v_rs2v }
  | .vnsrlWx => { name := "vnsrl.wx", id := 544, codec := .v_r, regs := rf_rdv_rs2v, pseudo := [⟨.vncvtXXW, [.rs1Is 0]⟩] }
  | .vnsrlWi => { name := "vnsrl.wi", id := 545, codec := .v_iu, regs := rf_rdv_rs2v }
  | .vnsraWv => { name := "vnsra.wv", id := 546, codec := .v_r, regs := rf_rdv_rs1v_rs2v }
  | .vnsraWx => { name := "vnsra.wx", id := 547, codec := .v_r, regs := rf_rdv_rs2v }
  | .vnsraWi => { name := "vnsra.wi", id := 548, codec := .v_iu, regs := rf_rdv_rs2v }
  | .vnclipuWv => { name := "vnclipu.wv", id := 549, codec := .v_r, regs := rf_rdv_rs1v_rs2v }
  | .vnclipuWx => { name := "vnclipu.wx", id := 550, codec := .v_r, regs := rf_rdv_rs2v }
  | .vnclipuWi => { name := "vnclipu.wi", id := 551, codec := .v_iu, regs := rf_rdv_rs2v }
  | .vnclipWv => { name := "vnclip.wv", id := 552, codec := .v_r, regs := rf_rdv_rs1v_rs2v }
  | .vnclipWx => { name := "vnclip.wx", id := 553, codec := .v_r, regs := rf_rdv_rs2v }
  | .vnclipWi => { name := "vnclip.wi", id := 554, codec := .v_iu, regs := rf_rdv_rs2v }
  | .vrgatherei16Vv => { name := "vrgatherei16.vv", id := 555, codec := .v_r, regs := rf_rdv_rs1v_rs2v }
  | .vslideupVx => { name := "vslideup.vx", id := 556, codec := .v_r, regs := rf_rdv_rs2v }
  | .vslideupVi => { name := "vslideup.vi", id := 557, codec := .v_iu, regs := rf_rdv_rs2v }
  | .vadcVvm => { name := "vadc.vvm", id := 558, codec := .v_r, regs := rf_rdv_rs1v_rs2v }
  | .vadcVxm => { name := "vadc.vxm", id := 559, codec := .v_r, regs := rf_rdv_rs2v }
  | .vadcVim => { name := "vadc.vim", id := 560, codec := .v_i, regs := rf_rdv_rs2v }
  | .vmadcVvm => { name := "vmadc.vvm", id := 561, codec := .v_r, regs := rf_rdv_rs1v_rs2v }
  | .vmadcVxm => { name := "vmadc.vxm", id := 562, codec := .v_r, regs := rf_rdv_rs2v }
  | .vmadcVim => { name := "vmadc.vim", id := 563, codec := .v_i, regs := rf_rdv_rs2v }
  | .vmadcVv => { name := "vmadc.vv", id := 564, codec := .v_r, regs := rf_rdv_rs1v_rs2v }
  | .vmadcVx => { name := "vmadc.vx", id := 565, codec := .v_r, regs := rf_rdv_rs2v }
  | .vmadcVi => { name := "vmadc.vi", id := 566, codec := .v_i, regs := rf_rdv_rs2v }
  | .vsbcVvm => { name := "vsbc.vvm", id := 567, codec := .v_r, regs := rf_rdv_rs1v_rs2v }
  | .vsbcVxm => { name := "vsbc.vxm", id := 568, codec := .v_r, regs := rf_rdv_rs2v }
  | .vmsbcVvm => { name := "vmsbc.vvm", id := 569, codec := .v_r, regs := rf_rdv_rs1v_rs2v }
  | .vmsbcVxm => { name := "vmsbc.vxm", id := 570, codec := .v_r, regs := rf_rdv_rs2v }
  | .vmsbcVv => { name := "vmsbc.vv", id := 571, codec := .v_r, regs := rf_rdv_rs1v_rs2v }
  | .vmsbcVx => { name := "vmsbc.vx", id := 572, codec := .v_r, regs := rf_rdv_rs2v }
  | .vmergeVvm => { name := "vmerge.vvm", id := 573, codec := .v_r, regs := rf_rdv_rs1v_rs2v }
  | .vmergeVxm => { name := "vmerge.vxm", id := 574, codec := .v_r, regs := rf_rdv_rs2v }
  | .vmergeVim => { name := "vmerge.vim", id := 575, codec := .v_i, regs := rf_rdv_rs2v }
  | .vmvVV => { name := "vmv.v.v", id := 576, codec := .v_r, regs := rf_rdv_rs1v }
  | .vmvVX => { name := "vmv.v.x", id := 577, codec := .v_r, regs := rf_rdv }
  | .vmvVI => { name := "vmv.v.i", id := 578, codec := .v_i, regs := rf_rdv }
  | .vmv1rV => { name := "vmv1r.v", id := 579, codec := .v_r2, regs := rf_rdv_rs2v }
  | .vmv2rV => { name := "vmv2r.v", id := 580, codec := .v_r2, regs := rf_rdv_rs2v }
  | .vmv4rV => { name := "vmv4r.v", id := 581, codec := .v_r2, regs := rf_rdv_rs2v }
  | .vmv8rV => { name := "vmv8r.v", id := 582, codec := .v_r2, regs := rf_rdv_rs2v }
  | .vwredsumuVs => { name := "vwredsumu.vs", id := 583, codec := .v_r, regs := rf_rdv_rs1v_rs2v }
  | .vwredsumVs => { name := "vwredsum.vs", id := 584, codec := .v_r, regs := rf_rdv_rs1v_rs2v }
  | .vredsumVs => { name := "vredsum.vs", id := 585, codec := .v_r, regs := rf_rdv_rs1v_rs2v }
  | .vredandVs => { name := "vredand.vs", id := 586, codec := .v_r, regs := rf_rdv_rs1v_rs2v }
  | .vredorVs => { name := "vredor.vs", id := 587, codec := .v_r, regs := rf_rdv_rs1v_rs2v }
  | .vredxorVs => { name := "vredxor.vs", id := 588, codec := .v_r, regs := rf_rdv_rs1v_rs2v }
  | .vredminuVs => { name := "vredminu.vs", id := 589, codec := .v_r, regs := rf_rdv_rs1v_rs2v }
  | .vredminVs => { name := "vredmin.vs", id := 590, codec := .v_r, regs := rf_rdv_rs1v_rs2v }
  | .vredmaxuVs => { name := "vredmaxu.vs", id := 591, codec := .v_r, regs := rf_rdv_rs1v_rs2v }
  | .vredmaxVs => { name := "vredmax.vs", id := 592, codec := .v_r, regs := rf_rdv_rs1v_rs2v }
  | .vaadduVv => { name := "vaaddu.vv", id := 593, codec := .v_r, regs := rf_rdv_rs1v_rs2v }
  | .vaadduVx => { name := "vaaddu.vx", id := 594, codec := .v_r, regs := rf_rdv_rs2v }
  | .vaaddVv => { name := "vaadd.vv", id := 595, codec := .v_r, regs := rf_rdv_rs1v_rs2v }
  | .vaaddVx => { name := "vaadd.vx", id := 596, codec := .v_r, regs := rf_rdv_rs2v }
  | .vasubuVv => { name := "vasubu.vv", id := 597, codec := .v_r, regs := rf_rdv_rs1v_rs2v }
  | .vasubuVx => { name := "vasubu.vx", id := 598, codec := .v_r, regs := rf_rdv_rs2v }
  | .vasubVv => { name := "vasub.vv", id := 599, codec := .v_r, regs := rf_rdv_rs1v_rs2v }
  | .vasubVx => { name := "vasub.vx", id := 600, codec := .v_r, regs := rf_rdv_rs2v }
  | .vdivuVv => { name := "vdivu.vv", id := 601, codec := .v_r, regs := rf_rdv_rs1v_rs2v }
  | .vdivuVx => { name := "vdivu.vx", id := 602, codec := .v_r, regs := rf_rdv_rs2v }
  | .vdivVv => { name := "vdiv.vv", id := 603, codec := .v_r, regs := rf_rdv_rs1v_rs2v }
  | .vdivVx => { name := "vdiv.vx", id := 604, codec := .v_r, regs := rf_rdv_rs2v }
  | .vremuVv => { name := "vremu.vv", id := 605, codec := .v_r, regs := rf_rdv_rs1v_rs2v }
  | .vremuVx => { name := "vremu.vx", id := 606, codec := .v_r, regs := rf_rdv_rs2v }
  | .vremVv => { name := "vrem.vv", id := 607, codec := .v_r, regs := rf_rdv_rs1v_rs2v }
  | .vremVx => { name := "vrem.vx", id := 608, codec := .v_r, regs := rf_rdv_rs2v }
  | .vmulhuVv => { name := "vmulhu.vv", id := 609, codec := .v_r, regs := rf_rdv_rs1v_rs2v }
  | .vmulhuVx => { name := "vmulhu.vx", id := 610, codec := .v_r, regs := rf_rdv_rs2v }
  | .vmulVv => { name := "vmul.vv", id := 611, codec := .v_r, regs := rf_rdv_rs1v_rs2v }
  | .vmulVx => { name := "vmul.vx", id := 612, codec := .v_r, regs := rf_rdv_rs2v }
  | .vmulhsuVv => { name := "vmulhsu.vv", id := 613, codec := .v_r, regs := rf_rdv_rs1v_rs2v }
  | .vmulhsuVx => { name := "vmulhsu.vx", id := 614, codec := .v_r, regs := rf_rdv_rs2v }
  | .vmulhVv => { name := "vmulh.vv", id := 615, codec := .v_r, regs := rf_rdv_rs1v_rs2v }
  | .vmulhVx => { name := "vmulh.vx", id := 616, codec := .v_r, regs := rf_rdv_rs2v }
  | .vmaddVv => { name := "vmadd.vv", id := 617, codec := .v_r, regs := rf_rdv_rs1v_rs2v }
  | .vmaddVx => { name := "vmadd.vx", id := 618, codec := .v_r, regs := rf_rdv_rs2v }
  | .vnmsubVv => { name := "vnmsub.vv", id := 619, codec := .v_r, regs := rf_rdv_rs1v_rs2v }
  | .vnmsubVx => { name := "vnmsub.vx", id := 620, codec := .v_r, regs := rf_rdv_rs2v }
  | .vmaccVv => { name := "vmacc.vv", id := 621, codec := .v_r, regs := rf_rdv_rs1v_rs2v }
  | .vmaccVx => { name := "vmacc.vx", id := 622, codec := .v_r, regs := rf_rdv_rs2v }
  | .vnmsacVv => { name := "vnmsac.vv", id := 623, codec := .v_r, regs := rf_rdv_rs1v_rs2v }
  | .vnmsacVx => { name := "vnmsac.vx", id := 624, codec := .v_r, regs := rf_rdv_rs2v }
  | .vwadduVv => { name := "vwaddu.vv", id := 625, codec := .v_r, regs := rf_rdv_rs1v_rs2v }
  | .vwadduVx => { name := "vwaddu.vx", id := 626, codec := .v_r, regs := rf_rdv_rs2v, pseudo := [⟨.vwcvtuXXV, [.rs1Is 0]⟩] }
  | .vwaddVv => { name := "vwadd.vv", id := 627, codec := .v_r, regs := rf_rdv_rs1v_rs2v }
  | .vwaddVx => { name := "vwadd.vx", id := 628, codec := .v_r, regs := rf_rdv_rs2v, pseudo := [⟨.vwcvtXXV, [.rs1Is 0]⟩] }
  | .vwsubuVv => { name := "vwsubu.vv", id := 629, codec := .v_r, regs := rf_rdv_rs1v_rs2v }
  | .vwsubuVx => { name := "vwsubu.vx", id := 630, codec := .v_r, regs := rf_rdv_rs2v }
  | .vwsubVv => { name := "vwsub.vv", id := 631, codec := .v_r, regs := rf_rdv_rs1v_rs2v }
  | .vwsubVx => { name := "vwsub.vx", id := 632, codec := .v_r, regs := rf_rdv_rs2v }
  | .vwmuluVv => { name := "vwmulu.vv", id := 633, codec := .v_r, regs := rf_rdv_rs1v_rs2v }
  | .vwmuluVx => { name := "vwmulu.vx", id := 634, codec := .v_r, regs := rf_rdv_rs2v }
  | .vwmulsuVv => { name := "vwmulsu.vv", id := 635, codec := .v_r, regs := rf_rdv_rs1v_rs2v }
  | .vwmulsuVx => { name := "vwmulsu.vx", id := 636, codec := .v_r, regs := rf_rdv_rs2v }
  | .vwmulVv => { name := "vwmul.vv", id := 637, codec := .v_r, regs := rf_rdv_rs1v_rs2v }
  | .vwmulVx => { name := "vwmul.vx", id := 638, codec := .v_r, regs := rf_rdv_rs2v }
  | .vwmaccuVv => { name := "vwmaccu.vv", id := 639, codec := .v_r, regs := rf_rdv_rs1v_rs2v }
  | .vwmaccuVx => { name := "vwmaccu.vx", id := 640, codec := .v_r, regs := rf_rdv_rs2v }
  | .vwmaccVv => { name := "vwmacc.vv", id := 641, codec := .v_r, regs := rf_rdv_rs1v_rs2v }
  | .vwmaccVx => { name := "vwmacc.vx", id := 642, codec := .v_r, regs := rf_rdv_rs2v }
  | .vwmaccusVx => { name := "vwmaccus.vx", id := 643, codec := .v_r, regs := rf_rdv_rs2v }
  | .vwmaccsuVv => { name := "vwmaccsu.vv", id := 644, codec := .v_r, regs := rf_rdv_rs1v_rs2v }
  | .vwmaccsuVx => { name := "vwmaccsu.vx", id := 645, codec := .v_r, regs := rf_rdv_rs2v }
  | .vwadduWv => { name := "vwaddu.wv", id := 646, codec := .v_r, regs := rf_rdv_rs1v_rs2v }
  | .vwadduWx => { name := "vwaddu.wx", id := 647, codec := .v_r, regs := rf_rdv_rs2v }
  | .vwaddWv => { name := "vwadd.wv", id := 648, codec := .v_r, regs := rf_rdv_rs1v_rs2v }
  | .vwaddWx => { name := "vwadd.wx", id := 649, codec := .v_r, regs := rf_rdv_rs2v }
  | .vwsubuWv => { name := "vwsubu.wv", id := 650, codec := .v_r, regs := rf_rdv_rs1v_rs2v }
  | .vwsubuWx => { name := "vwsubu.wx", id := 651, codec := .v_r, regs := rf_rdv_rs2v }
  | .vwsubWv => { name := "vwsub.wv", id := 652, codec := .v_r, regs := rf_rdv_rs1v_rs2v }
  | .vwsubWx => { name := "vwsub.wx", id := 653, codec := .v_r, regs := rf_rdv_rs2v }
  | .vslide1upVx => { name := "vslide1up.vx", id := 654, codec := .v_r, regs := rf_rdv_rs2v }
  | .vslide1downVx => { name := "vslide1down.vx", id := 655, codec := .v_r, regs := rf_rdv_rs2v }
  | .vmvXS => { name := "vmv.x.s", id := 656, codec := .v_r2, regs := rf_rs2v }
  | .vcpopM => { name := "vcpop.m", id := 657, codec := .v_r2, regs := rf_rs2v }
  | .vfirstM => { name := "vfirst.m", id := 658, codec := .v_r2, regs := rf_rs2v }
  | .vmvSX => { name := "vmv.s.x", id := 659, codec := .v_r, regs := rf_rdv }
  | .vzextVf8 => { name := "vzext.vf8", id := 660, codec := .v_r2, regs := rf_rdv_rs2v }
  | .vsextVf8 => { name := "vsext.vf8", id := 661, codec := .v_r2, regs := rf_rdv_rs2v }
  | .vzextVf4 => { name := "vzext.vf4", id := 662, codec := .v_r2, regs := rf_rdv_rs2v }
  | .vsextVf4 => { name := "vsext.vf4", id := 663, codec := .v_r2, regs := rf_rdv_rs2v }
  | .vzextVf2 => { name := "vzext.vf2", id := 664, codec := .v_r2, regs := rf_rdv_rs2v }
  | .vsextVf2 => { name := "vsext.vf2", id := 665, codec := .v_r2, regs := rf_rdv_rs2v }
  | .vmsbfM => { name := "vmsbf.m", id := 666, codec := .v_r2, regs := rf_rdv_rs2v }
  | .vmsofM => { name := "vmsof.m", id := 667, codec := .v_r2, regs := rf_rdv_rs2v }
  | .vmsifM => { name := "vmsif.m", id := 668, codec := .v_r2, regs := rf_rdv_rs2v }
  | .viotaM => { name := "viota.m", id := 669, codec := .v_r2, regs := rf_rdv_rs2v }
  | .vidV => { name := "vid.v", id := 670, codec := .v_rd, regs := rf_rdv }
  | .vcompressVm => { name := "vcompress.vm", id := 671, codec := .v_r, regs := rf_rdv_rs1v_rs2v }
  | .vmandnMm => { name := "vmandn.mm", id := 672, codec := .v_r, regs := rf_rdv_rs1v_rs2v }
  | .vmandMm => { name := "vmand.mm", id := 673, codec := .v_r, regs := rf_rdv_rs1v_rs2v, pseudo := [⟨.vmmvM, [.rs2IsRs1]⟩] }
  | .vmorMm => { name := "vmor.mm", id := 674, codec := .v_r, regs := rf_rdv_rs1v_rs2v }
  | .vmxorMm => { name := "vmxor.mm", id := 675, codec := .v_r, regs := rf_rdv_rs1v_rs2v, pseudo := [⟨.vmclrM, [.rdIsRs1, .rs2IsRs1]⟩] }
  | .vmornMm => { name := "vmorn.mm", id := 676, codec := .v_r, regs := rf_rdv_rs1v_rs2v }
  | .vmnandMm => { name := "vmnand.mm", id := 677, codec := .v_r, regs := rf_rdv_rs1v_rs2v, pseudo := [⟨.vmnotM, [.rs2IsRs1]⟩] }
  | .vmnorMm => { name := "vmnor.mm", id := 678, codec := .v_r, regs := rf_rdv_rs1v_rs2v }
  | .vmxnorMm => { name := "vmxnor.mm", id := 679, codec := .v_r, regs := rf_rdv_rs1v_rs2v, pseudo := [⟨.vmsetM, [.rdIsRs1, .rs2IsRs1]⟩] }
  | .vfaddVv => { name := "vfadd.vv", id := 680, codec := .v_r, regs := rf_rdv_rs1v_rs2v }
  | .vfaddVf => { name := "vfadd.vf", id := 681, codec := .v_r, regs := rf_rdv_rs1f_rs2v }
  | .vfsubVv => { name := "vfsub.vv", id := 682, codec := .v_r, regs := rf_rdv_rs1v_rs2v }
  | .vfsubVf => { name := "vfsub.vf", id := 683, codec := .v_r, regs := rf_rdv_rs1f_rs2v }
  | .vfminVv => { name := "vfmin.vv", id := 684, codec := .v_r, regs := rf_rdv_rs1v_rs2v }
  | .vfminVf => { name := "vfmin.vf", id := 685, codec := .v_r, regs := rf_rdv_rs1f_rs2v }
  | .vfmaxVv => { name := "vfmax.vv", id := 686, codec := .v_r, regs := rf_rdv_rs1v_rs2v }
  | .vfmaxVf => { name := "vfmax.vf", id := 687, codec := .v_r, regs := rf_rdv_rs1f_rs2v }
  | .vfsgnjVv => { name := "vfsgnj.vv", id := 688, codec := .v_r, regs := rf_rdv_rs1v_rs2v }
  | .vfsgnjVf => { name := "vfsgnj.vf", id := 689, codec := .v_r, regs := rf_rdv_rs1f_rs2v }
  | .vfsgnjnVv => { name := "vfsgnjn.vv", id := 690, codec := .v_r, regs := rf_rdv_rs1v_rs2v, pseudo := [⟨.vfnegV, [.rs2IsRs1]⟩] }
  | .vfsgnjnVf => { name := "vfsgnjn.vf", id := 691, codec := .v_r, regs := rf_rdv_rs1f_rs2v }
  | .vfsgnjxVv => { name := "vfsgnjx.vv", id := 692, codec := .v_r, regs := rf_rdv_rs1v_rs2v, pseudo := [⟨.vfabsV, [.rs2IsRs1]⟩] }
  | .vfsgnjxVf => { name := "vfsgnjx.vf", id := 693, codec := .v_r, regs := rf_rdv_rs1f_rs2v }
  | .vfslide1upVf => { name := "vfslide1up.vf", id := 694, codec := .v_r, regs := rf_rdv_rs1f_rs2v }
  | .vfslide1downVf => { name := "vfslide1down.vf", id := 695, codec := .v_r, regs := rf_rdv_rs1f_rs2v }
  | .vmfeqVv => { name := "vmfeq.vv", id := 696, codec := .v_r, regs := rf_rdv_rs1v_rs2v }
  | .vmfeqVf => { name := "vmfeq.vf", id := 697, codec := .v_r, regs := rf_rdv_rs1f_rs2v }
  | .vmfleVv => { name := "vmfle.vv", id := 698, codec := .v_r, regs := rf_rdv_rs1v_rs2v }
  | .vmfleVf => { name := "vmfle.vf", id := 699, codec := .v_r, regs := rf_rdv_rs1f_rs2v }
  | .vmfltVv => { name := "vmflt.vv", id := 700, codec := .v_r, regs := rf_rdv_rs1v_rs2v }
  | .vmfltVf => { name := "vmflt.vf", id := 701, codec := .v_r, regs := rf_rdv_rs1f_rs2v }
  | .vmfneVv => { name := "vmfne.vv", id := 702, codec := .v_r, regs := rf_rdv_rs1v_rs2v }
  | .vmfneVf => { name := "vmfne.vf", id := 703, codec := .v_r, regs := rf_rdv_rs1f_rs2v }
  | .vmfgtVf => { name := "vmfgt.vf", id := 704, codec := .v_r, regs := rf_rdv_rs1f_rs2v }
  | .vmfgeVf => { name := "vmfge.vf", id := 705, codec := .v_r, regs := rf_rdv_rs1f_rs2v }
  | .vfdivVv => { name := "vfdiv.vv", id := 706, codec := .v_r, regs := rf_rdv_rs1v_rs2v }
  | .vfdivVf => { name := "vfdiv.vf", id := 707, codec := .v_r, regs := rf_rdv_rs1f_rs2v }
  | .vfrdivVf => { name := "vfrdiv.vf", id := 708, codec := .v_r, regs := rf_rdv_rs1f_rs2v }
  | .vfmulVv => { name := "vfmul.vv", id := 709, codec := .v_r, regs := rf_rdv_rs1v_rs2v }
  | .vfmulVf => { name := "vfmul.vf", id := 710, codec := .v_r, regs := rf_rdv_rs1f_rs2v }
  | .vfrsubVf => { name := "vfrsub.vf", id := 711, codec := .v_r, regs := rf_rdv_rs1f_rs2v }
  | .vfmaddVv => { name := "vfmadd.vv", id := 712, codec := .v_r, regs := rf_rdv_rs1v_rs2v }
  | .vfmaddVf => { name := "vfmadd.vf", id := 713, codec := .v_r, regs := rf_rdv_rs1f_rs2v }
  | .vfnmaddVv => { name := "vfnmadd.vv", id := 714, codec := .v_r, regs := rf_rdv_rs1v_rs2v }
  | .vfnmaddVf => { name := "vfnmadd.vf", id := 715, codec := .v_r, regs := rf_rdv_rs1f_rs2v }
  | .vfmsubVv => { name := "vfmsub.vv", id := 716, codec := .v_r, regs := rf_rdv_rs1v_rs2v }
  | .vfmsubVf => { name := "vfmsub.vf", id := 717, codec := .v_r, regs := rf_rdv_rs1f_rs2v }
  | .vfnmsubVv => { name := "vfnmsub.vv", id := 718, codec := .v_r, regs := rf_rdv_rs1v_rs2v }
  | .vfnmsubVf => { name := "vfnmsub.vf", id := 719, codec := .v_r, regs := rf_rdv_rs1f_rs2v }
  | .vfmaccVv => { name := "vfmacc.vv", id := 720, codec := .v_r, regs := rf_rdv_rs1v_rs2v }
  | .vfmaccVf => { name := "vfmacc.vf", id := 721, codec := .v_r, regs := rf_rdv_rs1f_rs2v }
  | .vfnmaccVv => { name := "vfnmacc.vv", id := 722, codec := .v_r, regs := rf_rdv_rs1v_rs2v }
  | .vfnmaccVf => { name := "vfnmacc.vf", id := 723, codec := .v_r, regs := rf_rdv_rs1f_rs2v }
  | .vfmsacVv => { name := "vfmsac.vv", id := 724, codec := .v_r, regs := rf_rdv_rs1v_rs2v }
  | .vfmsacVf => { name := "vfmsac.vf", id := 725, codec := .v_r, regs := rf_rdv_rs1f_rs2v }
  | .vfnmsacVv => { name := "vfnmsac.vv", id := 726, codec := .v_r, regs := rf_rdv_rs1v_rs2v }
  | .vfnmsacVf => { name := "vfnmsac.vf", id := 727, codec := .v_r, regs := rf_rdv_rs1f_rs2v }
  | .vfwaddVv => { name := "vfwadd.vv", id := 728, codec := .v_r, regs := rf_rdv_rs1v_rs2v }
  | .vfwaddVf => { name := "vfwadd.vf", id := 729, codec := .v_r, regs := rf_rdv_rs1f_rs2v }
  | .vfwsubVv => { name := "vfwsub.vv", id := 730, codec := .v_r, regs := rf_rdv_rs1v_rs2v }
  | .vfwsubVf => { name := "vfwsub.vf", id := 731, codec := .v_r, regs := rf_rdv_rs1f_rs2v }
  | .vfwmulVv => { name := "vfwmul.vv", id := 732, codec := .v_r, regs := rf_rdv_rs1v_rs2v }
  | .vfwmulVf => { name := "vfwmul.vf", id := 733, codec := .v_r, regs := rf_rdv_rs1f_rs2v }
  | .vfwmaccVv => { name := "vfwmacc.vv", id := 734, codec := .v_r, regs := rf_rdv_rs1v_rs2v }
  | .vfwmaccVf => { name := "vfwmacc.vf", id := 735, codec := .v_r, regs := rf_rdv_rs1f_rs2v }
  | .vfwnmaccVv => { name := "vfwnmacc.vv", id := 736, codec := .v_r, regs := rf_rdv_rs1v_rs2v }
  | .vfwnmaccVf => { name := "vfwnmacc.vf", id := 737, codec := .v_r, regs := rf_rdv_rs1f_rs2v }
  | .vfwmsacVv => { name := "vfwmsac.vv", id := 738, codec := .v_r, regs := rf_rdv_rs1v_rs2v }
  | .vfwmsacVf => { name := "vfwmsac.vf", id := 739, codec := .v_r, regs := rf_rdv_rs1f_rs2v }
  | .vfwnmsacVv => { name := "vfwnmsac.vv", id := 740, codec := .v_r, regs := rf_rdv_rs1v_rs2v }
  | .vfwnmsacVf => { name := "vfwnmsac.vf", id := 741, codec := .v_r, regs := rf_rdv_rs1f_rs2v }
  | .vfredusumVs => { name := "vfredusum.vs", id := 742, codec := .v_r, regs := rf_rdv_rs1v_rs2v }
  | .vfredosumVs => { name := "vfredosum.vs", id := 743, codec := .v_r, regs := rf_rdv_rs1v_rs2v }
  | .vfredminVs => { name := "vfredmin.vs", id := 744, codec := .v_r, regs := rf_rdv_rs1v_rs2v }
  | .vfredmaxVs => { name := "vfredmax.vs", id := 745, codec := .v_r, regs := rf_rdv_rs1v_rs2v }
  | .vfwredusumVs => { name := "vfwredusum.vs", id := 746, codec := .v_r, regs := rf_rdv_rs1v_rs2v }
  | .vfwredosumVs => { name := "vfwredosum.vs", id := 747, codec := .v_r, regs := rf_rdv_rs1v_rs2v }
  | .vfwaddWv => { name := "vfwadd.wv", id := 748, codec := .v_r, regs := rf_rdv_rs1v_rs2v }
  | .vfwaddWf => { name := "vfwadd.wf", id := 749, codec := .v_r, regs := rf_rdv_rs1f_rs2v }
  | .vfwsubWv => { name := "vfwsub.wv", id := 750, codec := .v_r, regs := rf_rdv_rs1v_rs2v }
  | .vfwsubWf => { name := "vfwsub.wf", id := 751, codec := .v_r, regs := rf_rdv_rs1f_rs2v }
  | .vfmvFS => { name := "vfmv.f.s", id := 752, codec := .v_r2, regs := rf_rdf_rs2v }
  | .vfmvSF => { name := "vfmv.s.f", id := 753, codec := .v_r, regs := rf_rdv_rs1f }
  | .vfcvtXuFV => { name := "vfcvt.xu.f.v", id := 754, codec := .v_r2, regs := rf_rdv_rs2v }
  | .vfcvtXFV => { name := "vfcvt.x.f.v", id := 755, codec := .v_r2, regs := rf_rdv_rs2v }
  | .vfcvtFXuV => { name := "vfcvt.f.xu.v", id := 756, codec := .v_r2, regs := rf_rdv_rs2v }
  | .vfcvtFXV => { name := "vfcvt.f.x.v", id := 757, codec := .v_r2, regs := rf_rdv_rs2v }
  | .vfcvtRtzXuFV => { name := "vfcvt.rtz.xu.f.v", id := 758, codec := .v_r2, regs := rf_rdv_rs2v }
  | .vfcvtRtzXFV => { name := "vfcvt.rtz.x.f.v", id := 759, codec := .v_r2, regs := rf_rdv_rs2v }
  | .vfwcvtXuFV => { name := "vfwcvt.xu.f.v", id := 760, codec := .v_r2, regs := rf_rdv_rs2v }
  | .vfwcvtXFV => { name := "vfwcvt.x.f.v", id := 761, codec := .v_r2, regs := rf_rdv_rs2v }
  | .vfwcvtFXuV => { name := "vfwcvt.f.xu.v", id := 762, codec := .v_r2, regs := rf_rdv_rs2v }
  | .vfwcvtFXV => { name := "vfwcvt.f.x.v", id := 763, codec := .v_r2, regs := rf_rdv_rs2v }
  | .vfwcvtFFV => { name := "vfwcvt.f.f.v", id := 764, codec := .v_r2, regs := rf_rdv_rs2v }
  | .vfwcvtRtzXuFV => { name := "vfwcvt.rtz.xu.f.v", id := 765, codec := .v_r2, regs := rf_rdv_rs2v }
  | .vfwcvtRtzXFV => { name := "vfwcvt.rtz.x.f.v", id := 766, codec := .v_r2, regs := rf_rdv_rs2v }
  | .vfncvtXuFW => { name := "vfncvt.xu.f.w", id := 767, codec := .v_r2, regs := rf_rdv_rs2v }
  | .vfncvtXFW => { name := "vfncvt.x.f.w", id := 768, codec := .v_r2, regs := rf_rdv_rs2v }
  | .vfncvtFXuW => { name := "vfncvt.f.xu.w", id := 769, codec := .v_r2, regs := rf_rdv_rs2v }
  | .vfncvtFXW => { name := "vfncvt.f.x.w", id := 770, codec := .v_r2, regs := rf_rdv_rs2v }
  | .vfncvtFFW => { name := "vfncvt.f.f.w", id := 771, codec := .v_r2, regs := rf_rdv_rs2v }
  | .vfncvtRodFFW => { name := "vfncvt.rod.f.f.w", id := 772, codec := .v_r2, regs := rf_rdv_rs2v }
  | .vfncvtRtzXuFW => { name := "vfncvt.rtz.xu.f.w", id := 773, codec := .v_r2, regs := rf_rdv_rs2v }
  | .vfncvtRtzXFW => { name := "vfncvt.rtz.x.f.w", id := 774, codec := .v_r2, regs := rf_rdv_rs2v }
  | .vfsqrtV => { name := "vfsqrt.v", id := 775, codec := .v_r2, regs := rf_rdv_rs2v }
  | .vfrsqrt7V => { name := "vfrsqrt7.v", id := 776, codec := .v_r2, regs := rf_rdv_rs2v }
  | .vfrec7V => { name := "vfrec7.v", id := 777, codec := .v_r2, regs := rf_rdv_rs2v }
  | .vfclassV => { name := "vfclass.v", id := 778, codec := .v_r2, regs := rf_rdv_rs2v }
  | .vfmergeVfm => { name := "vfmerge.vfm", id := 779, codec := .v_r, regs := rf_rdv_rs1f_rs2v }
  | .vfmvVF => { name := "vfmv.v.f", id := 780, codec := .v_r, regs := rf_rdv_rs1f }
  -- Vector load/store (46_vector_ldst)
  | .vle8V => { name := "vle8.v", id := 781, codec := .v_ldst_u, regs := rf_rdv }
  | .vle8ffV => { name := "vle8ff.v", id := 782, codec := .v_ldst_u, regs := rf_rdv }
  | .vse8V => { name := "vse8.v", id := 783, codec := .v_ldst_u, regs := rf_rdv }
  | .vlse8V => { name := "vlse8.v", id := 784, codec := .v_ldst, regs := rf_rdv }
  | .vsse8V => { name := "vsse8.v", id := 785, codec := .v_ldst, regs := rf_rdv }
  | .vluxei8V => { name := "vluxei8.v", id := 786, codec := .v_ldst, regs := rf_rdv_rs2v }
  | .vsuxei8V => { name := "vsuxei8.v", id := 787, codec := .v_ldst, regs := rf_rdv_rs2v }
  | .vloxei8V => { name := "vloxei8.v", id := 788, codec := .v_ldst, regs := rf_rdv_rs2v }
  | .vsoxei8V => { name := "vsoxei8.v", id := 789, codec := .v_ldst, regs := rf_rdv_rs2v }
  | .vlseg2e8V => { name := "vlseg2e8.v", id := 790, codec := .v_ldst_u, regs := rf_rdv }
  | .vlseg2e8ffV => { name := "vlseg2e8ff.v", id := 791, codec := .v_ldst_u, regs := rf_rdv }
  | .vsseg2e8V => { name := "vsseg2e8.v", id := 792, codec := .v_ldst_u, regs := rf_rdv }
  | .vlsseg2e8V => { name := "vlsseg2e8.v", id := 793, codec := .v_ldst, regs := rf_rdv }
  | .vssseg2e8V => { name := "vssseg2e8.v", id := 794, codec := .v_ldst, regs := rf_rdv }
  | .vluxseg2ei8V => { name := "vluxseg2ei8.v", id := 795, codec := .v_ldst, regs := rf_rdv_rs2v }
  | .vsuxseg2ei8V => { name := "vsuxseg2ei8.v", id := 796, codec := .v_ldst, regs := rf_rdv_rs2v }
  | .vloxseg2ei8V => { name := "vloxseg2ei8.v", id := 797, codec := .v_ldst, regs := rf_rdv_rs2v }
  | .vsoxseg2ei8V => { name := "vsoxseg2ei8.v", id := 798, codec := .v_ldst, regs := rf_rdv_rs2v }
  | .vlseg3e8V => { name := "vlseg3e8.v", id := 799, codec := .v_ldst_u, regs := rf_rdv }
  | .vlseg3e8ffV => { name := "vlseg3e8ff.v", id := 800, codec := .v_ldst_u, regs := rf_rdv }
  | .vsseg3e8V => { name := "vsseg3e8.v", id := 801, codec := .v_ldst_u, regs := rf_rdv }
  | .vlsseg3e8V => { name := "vlsseg3e8.v", id := 802, codec := .v_ldst, regs := rf_rdv }
  | .vssseg3e8V => { name := "vssseg3e8.v", id := 803, codec := .v_ldst, regs := rf_rdv }
  | .vluxseg3ei8V => { name := "vluxseg3ei8.v", id := 804, codec := .v_ldst, regs := rf_rdv_rs2v }
  | .vsuxseg3ei8V => { name := "vsuxseg3ei8.v", id := 805, codec := .v_ldst, regs := rf_rdv_rs2v }
  | .vloxseg3ei8V => { name := "vloxseg3ei8.v", id := 806, codec := .v_ldst, regs := rf_rdv_rs2v }
  | .vsoxseg3ei8V => { name := "vsoxseg3ei8.v", id := 807, codec := .v_ldst, regs := rf_rdv_rs2v }
  | .vlseg4e8V => { name := "vlseg4e8.v", id := 808, codec := .v_ldst_u, regs := rf_rdv }
  | .vlseg4e8ffV => { name := "vlseg4e8ff.v", id := 809, codec := .v_ldst_u, regs := rf_rdv }
  | .vsseg4e8V => { name := "vsseg4e8.v", id := 810, codec := .v_ldst_u, regs := rf_rdv }
  | .vlsseg4e8V => { name := "vlsseg4e8.v", id := 811, codec := .v_ldst, regs := rf_rdv }
  | .vssseg4e8V => { name := "vssseg4e8.v", id := 812, codec := .v_ldst, regs := rf_rdv }
  | .vluxseg4ei8V => { name := "vluxseg4ei8.v", id := 813, codec := .v_ldst, regs := rf_rdv_rs2v }
  | .vsuxseg4ei8V => { name := "vsuxseg4ei8.v", id := 814, codec := .v_ldst, regs := rf_rdv_rs2v }
  | .vloxseg4ei8V => { name := "vloxseg4ei8.v", id := 815, codec := .v_ldst, regs := rf_rdv_rs2v }
  | .vsoxseg4ei8V => { name := "vsoxseg4ei8.v", id := 816, codec := .v_ldst, regs := rf_rdv_rs2v }
  | .vlseg5e8V => { name := "vlseg5e8.v", id := 817, codec := .v_ldst_u, regs := rf_rdv }
  | .vlseg5e8ffV => { name := "vlseg5e8ff.v", id := 818, codec := .v_ldst_u, regs := rf_rdv }
  | .vsseg5e8V => { name := "vsseg5e8.v", id := 819, codec := .v_ldst_u, regs := rf_rdv }
  | .vlsseg5e8V => { name := "vlsseg5e8.v", id := 820, codec := .v_ldst, regs := rf_rdv }
  | .vssseg5e8V => { name := "vssseg5e8.v", id := 821, codec := .v_ldst, regs := rf_rdv }
  | .vluxseg5ei8V => { name := "vluxseg5ei8.v", id := 822, codec := .v_ldst, regs := rf_rdv_rs2v }
  | .vsuxseg5ei8V => { name := "vsuxseg5ei8.v", id := 823, codec := .v_ldst, regs := rf_rdv_rs2v }
  | .vloxseg5ei8V => { name := "vloxseg5ei8.v", id := 824, codec := .v_ldst, regs := rf_rdv_rs2v }
  | .vsoxseg5ei8V => { name := "vsoxseg5ei8.v", id := 825, codec := .v_ldst, regs := rf_rdv_rs2v }
  | .vlseg6e8V => { name := "vlseg6e8.v", id := 826, codec := .v_ldst_u, regs := rf_rdv }
  | .vlseg6e8ffV => { name := "vlseg6e8ff.v", id := 827, codec := .v_ldst_u, regs := rf_rdv }
  | .vsseg6e8V => { name := "vsseg6e8.v", id := 828, codec := .v_ldst_u, regs := rf_rdv }
  | .vlsseg6e8V => { name := "vlsseg6e8.v", id := 829, codec := .v_ldst, regs := rf_rdv }
  | .vssseg6e8V => { name := "vssseg6e8.v", id := 830, codec := .v_ldst, regs := rf_rdv }
  | .vluxseg6ei8V => { name := "vluxseg6ei8.v", id := 831, codec := .v_ldst, regs := rf_rdv_rs2v }
  | .vsuxseg6ei8V => { name := "vsuxseg6ei8.v", id := 832, codec := .v_ldst, regs := rf_rdv_rs2v }
  | .vloxseg6ei8V => { name := "vloxseg6ei8.v", id := 833, codec := .v_ldst, regs := rf_rdv_rs2v }
  | .vsoxseg6ei8V => { name := "vsoxseg6ei8.v", id := 834, codec := .v_ldst, regs := rf_rdv_rs2v }
  | .vlseg7e8V => { name := "vlseg7e8.v", id := 835, codec := .v_ldst_u, regs := rf_rdv }
  | .vlseg7e8ffV => { name := "vlseg7e8ff.v", id := 836, codec := .v_ldst_u, regs := rf_rdv }
  | .vsseg7e8V => { name := "vsseg7e8.v", id := 837, codec := .v_ldst_u, regs := rf_rdv }
  | .vlsseg7e8V => { name := "vlsseg7e8.v", id := 838, codec := .v_ldst, regs := rf_rdv }
  | .vssseg7e8V => { name := "vssseg7e8.v", id := 839, codec := .v_ldst, regs := rf_rdv }
  | .vluxseg7ei8V => { name := "vluxseg7ei8.v", id := 840, codec := .v_ldst, regs := rf_rdv_rs2v }
  | .vsuxseg7ei8V => { name := "vsuxseg7ei8.v", id := 841, codec := .v_ldst, regs := rf_rdv_rs2v }
  | .vloxseg7ei8V => { name := "vloxseg7ei8.v", id := 842, codec := .v_ldst, regs := rf_rdv_rs2v }
  | .vsoxseg7ei8V => { name := "vsoxseg7ei8.v", id := 843, codec := .v_ldst, regs := rf_rdv_rs2v }
  | .vlseg8e8V => { name := "vlseg8e8.v", id := 844, codec := .v_ldst_u, regs := rf_rdv }
  | .vlseg8e8ffV => { name := "vlseg8e8ff.v", id := 845, codec := .v_ldst_u, regs := rf_rdv }
  | .vsseg8e8V => { name := "vsseg8e8.v", id := 846, codec := .v_ldst_u, regs := rf_rdv }
  | .vlsseg8e8V => { name := "vlsseg8e8.v", id := 847, codec := .v_ldst, regs := rf_rdv }
  | .vssseg8e8V => { name := "vssseg8e8.v", id := 848, codec := .v_ldst, regs := rf_rdv }
  | .vluxseg8ei8V => { name := "vluxseg8ei8.v", id := 849, codec := .v_ldst, regs := rf_rdv_rs2v }
  | .vsuxseg8ei8V => { name := "vsuxseg8ei8.v", id := 850, codec := .v_ldst, regs := rf_rdv_rs2v }
  | .vloxseg8ei8V => { name := "vloxseg8ei8.v", id := 851, codec := .v_ldst, regs := rf_rdv_rs2v }
  | .vsoxseg8ei8V => { name := "vsoxseg8ei8.v", id := 852, codec := .v_ldst, regs := rf_rdv_rs2v }
  | .vl1re8V => { name := "vl1re8.v", id := 853, codec := .v_ldst_u, regs := rf_rdv }
  | .vl2re8V => { name := "vl2re8.v", id := 854, codec := .v_ldst_u, regs := rf_rdv }
  | .vl4re8V => { name := "vl4re8.v", id := 855, codec := .v_ldst_u, regs := rf_rdv }
  | .vl8re8V => { name := "vl8re8.v", id := 856, codec := .v_ldst_u, regs := rf_rdv }
  | .vle16V => { name := "vle16.v", id := 857, codec := .v_ldst_u, regs := rf_rdv }
  | .vle16ffV => { name := "vle16ff.v", id := 858, codec := .v_ldst_u, regs := rf_rdv }
  | .vse16V => { name := "vse16.v", id := 859, codec := .v_ldst_u, regs := rf_rdv }
  | .vlse16V => { name := "vlse16.v", id := 860, codec := .v_ldst, regs := rf_rdv }
  | .vsse16V => { name := "vsse16.v", id := 861, codec := .v_ldst, regs := rf_rdv }
  | .vluxei16V => { name := "vluxei16.v", id := 862, codec := .v_ldst, regs := rf_rdv_rs2v }
  | .vsuxei16V => { name := "vsuxei16.v", id := 863, codec := .v_ldst, regs := rf_rdv_rs2v }
  | .vloxei16V => { name := "vloxei16.v", id := 864, codec := .v_ldst, regs := rf_rdv_rs2v }
  | .vsoxei16V => { name := "vsoxei16.v", id := 865, codec := .v_ldst, regs := rf_rdv_rs2v }
  | .vlseg2e16V => { name := "vlseg2e16.v", id := 866, codec := .v_ldst_u, regs := rf_rdv }
  | .vlseg2e16ffV => { name := "vlseg2e16ff.v", id := 867, codec := .v_ldst_u, regs := rf_rdv }
  | .vsseg2e16V => { name := "vsseg2e16.v", id := 868, codec := .v_ldst_u, regs := rf_rdv }
  | .vlsseg2e16V => { name := "vlsseg2e16.v", id := 869, codec := .v_ldst, regs := rf_rdv }
  | .vssseg2e16V => { name := "vssseg2e16.v", id := 870, codec := .v_ldst, regs := rf_rdv }
  | .vluxseg2ei16V => { name := "vluxseg2ei16.v", id := 871, codec := .v_ldst, regs := rf_rdv_rs2v }
  | .vsuxseg2ei16V => { name := "vsuxseg2ei16.v", id := 872, codec := .v_ldst, regs := rf_rdv_rs2v }
  | .vloxseg2ei16V => { name := "vloxseg2ei16.v", id := 873, codec := .v_ldst, regs := rf_rdv_rs2v }
  | .vsoxseg2ei16V => { name := "vsoxseg2ei16.v", id := 874, codec := .v_ldst, regs := rf_rdv_rs2v }
  | .vlseg3e16V => { name := "vlseg3e16.v", id := 875, codec := .v_ldst_u, regs := rf_rdv }
  | .vlseg3e16ffV => { name := "vlseg3e16ff.v", id := 876, codec := .v_ldst_u, regs := rf_rdv }
  | .vsseg3e16V => { name := "vsseg3e16.v", id := 877, codec := .v_ldst_u, regs := rf_rdv }
  | .vlsseg3e16V => { name := "vlsseg3e16.v", id := 878, codec := .v_ldst, regs := rf_rdv }
  | .vssseg3e16V => { name := "vssseg3e16.v", id := 879, codec := .v_ldst, regs := rf_rdv }
  | .vluxseg3ei16V => { name := "vluxseg3ei16.v", id := 880, codec := .v_ldst, regs := rf_rdv_rs2v }
  | .vsuxseg3ei16V => { name := "vsuxseg3ei16.v", id := 881, codec := .v_ldst, regs := rf_rdv_rs2v }
  | .vloxseg3ei16V => { name := "vloxseg3ei16.v", id := 882, codec := .v_ldst, regs := rf_rdv_rs2v }
  | .vsoxseg3ei16V => { name := "vsoxseg3ei16.v", id := 883, codec := .v_ldst, regs := rf_rdv_rs2v }
  | .vlseg4e16V => { name := "vlseg4e16.v", id := 884, codec := .v_ldst_u, regs := rf_rdv }
  | .vlseg4e16ffV => { name := "vlseg4e16ff.v", id := 885, codec := .v_ldst_u, regs := rf_rdv }
  | .vsseg4e16V => { name := "vsseg4e16.v", id := 886, codec := .v_ldst_u, regs := rf_rdv }
  | .vlsseg4e16V => { name := "vlsseg4e16.v", id := 887, codec := .v_ldst, regs := rf_rdv }
  | .vssseg4e16V => { name := "vssseg4e16.v", id := 888, codec := .v_ldst, regs := rf_rdv }
  | .vluxseg4ei16V => { name := "vluxseg4ei16.v", id := 889, codec := .v_ldst, regs := rf_rdv_rs2v }
  | .vsuxseg4ei16V => { name := "vsuxseg4ei16.v", id := 890, codec := .v_ldst, regs := rf_rdv_rs2v }
  | .vloxseg4ei16V => { name := "vloxseg4ei16.v", id := 891, codec := .v_ldst, regs := rf_rdv_rs2v }
  | .vsoxseg4ei16V => { name := "vsoxseg4ei16.v", id := 892, codec := .v_ldst, regs := rf_rdv_rs2v }
  | .vlseg5e16V => { name := "vlseg5e16.v", id := 893, codec := .v_ldst_u, regs := rf_rdv }
  | .vlseg5e16ffV => { name := "vlseg5e16ff.v", id := 894, codec := .v_ldst_u, regs := rf_rdv }
  | .vsseg5e16V => { name := "vsseg5e16.v", id := 895, codec := .v_ldst_u, regs := rf_rdv }
  | .vlsseg5e16V => { name := "vlsseg5e16.v", id := 896, codec := .v_ldst, regs := rf_rdv }
  | .vssseg5e16V => { name := "vssseg5e16.v", id := 897, codec := .v_ldst, regs := rf_rdv }
  | .vluxseg5ei16V => { name := "vluxseg5ei16.v", id := 898, codec := .v_ldst, regs := rf_rdv_rs2v }
  | .vsuxseg5ei16V => { name := "vsuxseg5ei16.v", id := 899, codec := .v_ldst, regs := rf_rdv_rs2v }
  | .vloxseg5ei16V => { name := "vloxseg5ei16.v", id := 900, codec := .v_ldst, regs := rf_rdv_rs2v }
  | .vsoxseg5ei16V => { name := "vsoxseg5ei16.v", id := 901, codec := .v_ldst, regs := rf_rdv_rs2v }
  | .vlseg6e16V => { name := "vlseg6e16.v", id := 902, codec := .v_ldst_u, regs := rf_rdv }
  | .vlseg6e16ffV => { name := "vlseg6e16ff.v", id := 903, codec := .v_ldst_u, regs := rf_rdv }
  | .vsseg6e16V => { name := "vsseg6e16.v", id := 904, codec := .v_ldst_u, regs := rf_rdv }
  | .vlsseg6e16V => { name := "vlsseg6e16.v", id := 905, codec := .v_ldst, regs := rf_rdv }
  | .vssseg6e16V => { name := "vssseg6e16.v", id := 906, codec := .v_ldst, regs := rf_rdv }
  | .vluxseg6ei16V => { name := "vluxseg6ei16.v", id := 907, codec := .v_ldst, regs := rf_rdv_rs2v }
  | .vsuxseg6ei16V => { name := "vsuxseg6ei16.v", id := 908, codec := .v_ldst, regs := rf_rdv_rs2v }
  | .vloxseg6ei16V => { name := "vloxseg6ei16.v", id := 909, codec := .v_ldst, regs := rf_rdv_rs2v }
  | .vsoxseg6ei16V => { name := "vsoxseg6ei16.v", id := 910, codec := .v_ldst, regs := rf_rdv_rs2v }
  | .vlseg7e16V => { name := "vlseg7e16.v", id := 911, codec := .v_ldst_u, regs := rf_rdv }
  | .vlseg7e16ffV => { name := "vlseg7e16ff.v", id := 912, codec := .v_ldst_u, regs := rf_rdv }
  | .vsseg7e16V => { name := "vsseg7e16.v", id := 913, codec := .v_ldst_u, regs := rf_rdv }
  | .vlsseg7e16V => { name := "vlsseg7e16.v", id := 914, codec := .v_ldst, regs := rf_rdv }
  | .vssseg7e16V => { name := "vssseg7e16.v", id := 915, codec := .v_ldst, regs := rf_rdv }
  | .vluxseg7ei16V => { name := "vluxseg7ei16.v", id := 916, codec := .v_ldst, regs := rf_rdv_rs2v }
  | .vsuxseg7ei16V => { name := "vsuxseg7ei16.v", id := 917, codec := .v_ldst, regs := rf_rdv_rs2v }
  | .vloxseg7ei16V => { name := "vloxseg7ei16.v", id := 918, codec := .v_ldst, regs := rf_rdv_rs2v }
  | .vsoxseg7ei16V => { name := "vsoxseg7ei16.v", id := 919, codec := .v_ldst, regs := rf_rdv_rs2v }
  | .vlseg8e16V => { name := "vlseg8e16.v", id := 920, codec := .v_ldst_u, regs := rf_rdv }
  | .vlseg8e16ffV => { name := "vlseg8e16ff.v", id := 921, codec := .v_ldst_u, regs := rf_rdv }
  | .vsseg8e16V => { name := "vsseg8e16.v", id := 922, codec := .v_ldst_u, regs := rf_rdv }
  | .vlsseg8e16V => { name := "vlsseg8e16.v", id := 923, codec := .v_ldst, regs := rf_rdv }
  | .vssseg8e16V => { name := "vssseg8e16.v", id := 924, codec := .v_ldst, regs := rf_rdv }
  | .vluxseg8ei16V => { name := "vluxseg8ei16.v", id := 925, codec := .v_ldst, regs := rf_rdv_rs2v }
  | .vsuxseg8ei16V => { name := "vsuxseg8ei16.v", id := 926, codec := .v_ldst, regs := rf_rdv_rs2v }
  | .vloxseg8ei16V => { name := "vloxseg8ei16.v", id := 927, codec := .v_ldst, regs := rf_rdv_rs2v }
  | .vsoxseg8ei16V => { name := "vsoxseg8ei16.v", id := 928, codec := .v_ldst, regs := rf_rdv_rs2v }
  | .vl1re16V => { name := "vl1re16.v", id := 929, codec := .v_ldst_u, regs := rf_rdv }
  | .vl2re16V => { name := "vl2re16.v", id := 930, codec := .v_ldst_u, regs := rf_rdv }
  | .vl4re16V => { name := "vl4re16.v", id := 931, codec := .v_ldst_u, regs := rf_rdv }
  | .vl8re16V => { name := "vl8re16.v", id := 932, codec := .v_ldst_u, regs := rf_rdv }
  | .vle32V => { name := "vle32.v", id := 933, codec := .v_ldst_u, regs := rf_rdv }
  | .vle32ffV => { name := "vle32ff.v", id := 934, codec := .v_ldst_u, regs := rf_rdv }
  | .vse32V => { name := "vse32.v", id := 935, codec := .v_ldst_u, regs := rf_rdv }
  | .vlse32V => { name := "vlse32.v", id := 936, codec := .v_ldst, regs := rf_rdv }
  | .vsse32V => { name := "vsse32.v", id := 937, codec := .v_ldst, regs := rf_rdv }
  | .vluxei32V => { name := "vluxei32.v", id := 938, codec := .v_ldst, regs := rf_rdv_rs2v }
  | .vsuxei32V => { name := "vsuxei32.v", id := 939, codec := .v_ldst, regs := rf_rdv_rs2v }
  | .vloxei32V => { name := "vloxei32.v", id := 940, codec := .v_ldst, regs := rf_rdv_rs2v }
  | .vsoxei32V => { name := "vsoxei32.v", id := 941, codec := .v_ldst, regs := rf_rdv_rs2v }
  | .vlseg2e32V => { name := "vlseg2e32.v", id := 942, codec := .v_ldst_u, regs := rf_rdv }
  | .vlseg2e32ffV => { name := "vlseg2e32ff.v", id := 943, codec := .v_ldst_u, regs := rf_rdv }
  | .vsseg2e32V => { name := "vsseg2e32.v", id := 944, codec := .v_ldst_u, regs := rf_rdv }
  | .vlsseg2e32V => { name := "vlsseg2e32.v", id := 945, codec := .v_ldst, regs := rf_rdv }
  | .vssseg2e32V => { name := "vssseg2e32.v", id := 946, codec := .v_ldst, regs := rf_rdv }
  | .vluxseg2ei32V => { name := "vluxseg2ei32.v", id := 947, codec := .v_ldst, regs := rf_rdv_rs2v }
  | .vsuxseg2ei32V => { name := "vsuxseg2ei32.v", id := 948, codec := .v_ldst, regs := rf_rdv_rs2v }
  | .vloxseg2ei32V => { name := "vloxseg2ei32.v", id := 949, codec := .v_ldst, regs := rf_rdv_rs2v }
  | .vsoxseg2ei32V => { name := "vsoxseg2ei32.v", id := 950, codec := .v_ldst, regs := rf_rdv_rs2v }
  | .vlseg3e32V => { name := "vlseg3e32.v", id := 951, codec := .v_ldst_u, regs := rf_rdv }
  | .vlseg3e32ffV => { name := "vlseg3e32ff.v", id := 952, codec := .v_ldst_u, regs := rf_rdv }
  | .vsseg3e32V => { name := "vsseg3e32.v", id := 953, codec := .v_ldst_u, regs := rf_rdv }
  | .vlsseg3e32V => { name := "vlsseg3e32.v", id := 954, codec := .v_ldst, regs := rf_rdv }
  | .vssseg3e32V => { name := "vssseg3e32.v", id := 955, codec := .v_ldst, regs := rf_rdv }
  | .vluxseg3ei32V => { name := "vluxseg3ei32.v", id := 956, codec := .v_ldst, regs := rf_rdv_rs2v }
  | .vsuxseg3ei32V => { name := "vsuxseg3ei32.v", id := 957, codec := .v_ldst, regs := rf_rdv_rs2v }
  | .vloxseg3ei32V => { name := "vloxseg3ei32.v", id := 958, codec := .v_ldst, regs := rf_rdv_rs2v }
  | .vsoxseg3ei32V => { name := "vsoxseg3ei32.v", id := 959, codec := .v_ldst, regs := rf_rdv_rs2v }
  | .vlseg4e32V => { name := "vlseg4e32.v", id := 960, codec := .v_ldst_u, regs := rf_rdv }
  | .vlseg4e32ffV => { name := "vlseg4e32ff.v", id := 961, codec := .v_ldst_u, regs := rf_rdv }
  | .vsseg4e32V => { name := "vsseg4e32.v", id := 962, codec := .v_ldst_u, regs := rf_rdv }
  | .vlsseg4e32V => { name := "vlsseg4e32.v", id := 963, codec := .v_ldst, regs := rf_rdv }
  | .vssseg4e32V => { name := "vssseg4e32.v", id := 964, codec := .v_ldst, regs := rf_rdv }
  | .vluxseg4ei32V => { name := "vluxseg4ei32.v", id := 965, codec := .v_ldst, regs := rf_rdv_rs2v }
  | .vsuxseg4ei32V => { name := "vsuxseg4ei32.v", id := 966, codec := .v_ldst, regs := rf_rdv_rs2v }
  | .vloxseg4ei32V => { name := "vloxseg4ei32.v", id := 967, codec := .v_ldst, regs := rf_rdv_rs2v }
  | .vsoxseg4ei32V => { name := "vsoxseg4ei32.v", id := 968, codec := .v_ldst, regs := rf_rdv_rs2v }
  | .vlseg5e32V => { name := "vlseg5e32.v", id := 969, codec := .v_ldst_u, regs := rf_rdv }
  | .vlseg5e32ffV => { name := "vlseg5e32ff.v", id := 970, codec := .v_ldst_u, regs := rf_rdv }
  | .vsseg5e32V => { name := "vsseg5e32.v", id := 971, codec := .v_ldst_u, regs := rf_rdv }
  | .vlsseg5e32V => { name := "vlsseg5e32.v", id := 972, codec := .v_ldst, regs := rf_rdv }
  | .vssseg5e32V => { name := "vssseg5e32.v", id := 973, codec := .v_ldst, regs := rf_rdv }
  | .vluxseg5ei32V => { name := "vluxseg5ei32.v", id := 974, codec := .v_ldst, regs := rf_rdv_rs2v }
  | .vsuxseg5ei32V => { name := "vsuxseg5ei32.v", id := 975, codec := .v_ldst, regs := rf_rdv_rs2v }
  | .vloxseg5ei32V => { name := "vloxseg5ei32.v", id := 976, codec := .v_ldst, regs := rf_rdv_rs2v }
  | .vsoxseg5ei32V => { name := "vsoxseg5ei32.v", id := 977, codec := .v_ldst, regs := rf_rdv_rs2v }
  | .vlseg6e32V => { name := "vlseg6e32.v", id := 978, codec := .v_ldst_u, regs := rf_rdv }
  | .vlseg6e32ffV => { name := "vlseg6e32ff.v", id := 979, codec := .v_ldst_u, regs := rf_rdv }
  | .vsseg6e32V => { name := "vsseg6e32.v", id := 980, codec := .v_ldst_u, regs := rf_rdv }
  | .vlsseg6e32V => { name := "vlsseg6e32.v", id := 981, codec := .v_ldst, regs := rf_rdv }
  | .vssseg6e32V => { name := "vssseg6e32.v", id := 982, codec := .v_ldst, regs := rf_rdv }
  | .vluxseg6ei32V => { name := "vluxseg6ei32.v", id := 983, codec := .v_ldst, regs := rf_rdv_rs2v }
  | .vsuxseg6ei32V => { name := "vsuxseg6ei32.v", id := 984, codec := .v_ldst, regs := rf_rdv_rs2v }
  | .vloxseg6ei32V => { name := "vloxseg6ei32.v", id := 985, codec := .v_ldst, regs := rf_rdv_rs2v }
  | .vsoxseg6ei32V => { name := "vsoxseg6ei32.v", id := 986, codec := .v_ldst, regs := rf_rdv_rs2v }
  | .vlseg7e32V => { name := "vlseg7e32.v", id := 987, codec := .v_ldst_u, regs := rf_rdv }
  | .vlseg7e32ffV => { name := "vlseg7e32ff.v", id := 988, codec := .v_ldst_u, regs := rf_rdv }
  | .vsseg7e32V => { name := "vsseg7e32.v", id := 989, codec := .v_ldst_u, regs := rf_rdv }
  | .vlsseg7e32V => { name := "vlsseg7e32.v", id := 990, codec := .v_ldst, regs := rf_rdv }
  | .vssseg7e32V => { name := "vssseg7e32.v", id := 991, codec := .v_ldst, regs := rf_rdv }
  | .vluxseg7ei32V => { name := "vluxseg7ei32.v", id := 992, codec := .v_ldst, regs := rf_rdv_rs2v }
  | .vsuxseg7ei32V => { name := "vsuxseg7ei32.v", id := 993, codec := .v_ldst, regs := rf_rdv_rs2v }
  | .vloxseg7ei32V => { name := "vloxseg7ei32.v", id := 994, codec := .v_ldst, regs := rf_rdv_rs2v }
  | .vsoxseg7ei32V => { name := "vsoxseg7ei32.v", id := 995, codec := .v_ldst, regs := rf_rdv_rs2v }
  | .vlseg8e32V => { name := "vlseg8e32.v", id := 996, codec := .v_ldst_u, regs := rf_rdv }
  | .vlseg8e32ffV => { name := "vlseg8e32ff.v", id := 997, codec := .v_ldst_u, regs := rf_rdv }
  | .vsseg8e32V => { name := "vsseg8e32.v", id := 998, codec := .v_ldst_u, regs := rf_rdv }
  | .vlsseg8e32V => { name := "vlsseg8e32.v", id := 999, codec := .v_ldst, regs := rf_rdv }
  | .vssseg8e32V => { name := "vssseg8e32.v", id := 1000, codec := .v_ldst, regs := rf_rdv }
  | .vluxseg8ei32V => { name := "vluxseg8ei32.v", id := 1001, codec := .v_ldst, regs := rf_rdv_rs2v }
  | .vsuxseg8ei32V => { name := "vsuxseg8ei32.v", id := 1002, codec := .v_ldst, regs := rf_rdv_rs2v }
  | .vloxseg8ei32V => { name := "vloxseg8ei32.v", id := 1003, codec := .v_ldst, regs := rf_rdv_rs2v }
  | .vsoxseg8ei32V => { name := "vsoxseg8ei32.v", id := 1004, codec := .v_ldst, regs := rf_rdv_rs2v }
  | .vl1re32V => { name := "vl1re32.v", id := 1005, codec := .v_ldst_u, regs := rf_rdv }
  | .vl2re32V => { name := "vl2re32.v", id := 1006, codec := .v_ldst_u, regs := rf_rdv }
  | .vl4re32V => { name := "vl4re32.v", id := 1007, codec := .v_ldst_u, regs := rf_rdv }
  | .vl8re32V => { name := "vl8re32.v", id := 1008, codec := .v_ldst_u, regs := rf_rdv }
  | .vle64V => { name := "vle64.v", id := 1009, codec := .v_ldst_u, regs := rf_rdv }
  | .vle64ffV => { name := "vle64ff.v", id := 1010, codec := .v_ldst_u, regs := rf_rdv }
  | .vse64V => { name := "vse64.v", id := 1011, codec := .v_ldst_u, regs := rf_rdv }
  | .vlse64V => { name := "vlse64.v", id := 1012, codec := .v_ldst, regs := rf_rdv }
  | .vsse64V => { name := "vsse64.v", id := 1013, codec := .v_ldst, regs := rf_rdv }
  | .vluxei64V => { name := "vluxei64.v", id := 1014, codec := .v_ldst, regs := rf_rdv_rs2v }
  | .vsuxei64V => { name := "vsuxei64.v", id := 1015, codec := .v_ldst, regs := rf_rdv_rs2v }
  | .vloxei64V => { name := "vloxei64.v", id := 1016, codec := .v_ldst, regs := rf_rdv_rs2v }
  | .vsoxei64V => { name := "vsoxei64.v", id := 1017, codec := .v_ldst, regs := rf_rdv_rs2v }
  | .vlseg2e64V => { name := "vlseg2e64.v", id := 1018, codec := .v_ldst_u, regs := rf_rdv }
  | .vlseg2e64ffV => { name := "vlseg2e64ff.v", id := 1019, codec := .v_ldst_u, regs := rf_rdv }
  | .vsseg2e64V => { name := "vsseg2e64.v", id := 1020, codec := .v_ldst_u, regs := rf_rdv }
  | .vlsseg2e64V => { name := "vlsseg2e64.v", id := 1021, codec := .v_ldst, regs := rf_rdv }
  | .vssseg2e64V => { name := "vssseg2e64.v", id := 1022, codec := .v_ldst, regs := rf_rdv }
  | .vluxseg2ei64V => { name := "vluxseg2ei64.v", id := 1023, codec := .v_ldst, regs := rf_rdv_rs2v }
  | .vsuxseg2ei64V => { name := "vsuxseg2ei64.v", id := 1024, codec := .v_ldst, regs := rf_rdv_rs2v }
  | .vloxseg2ei64V => { name := "vloxseg2ei64.v", id := 1025, codec := .v_ldst, regs := rf_rdv_rs2v }
  | .vsoxseg2ei64V => { name := "vsoxseg2ei64.v", id := 1026, codec := .v_ldst, regs := rf_rdv_rs2v }
  | .vlseg3e64V => { name := "vlseg3e64.v", id := 1027, codec := .v_ldst_u, regs := rf_rdv }
  | .vlseg3e64ffV => { name := "vlseg3e64ff.v", id := 1028, codec := .v_ldst_u, regs := rf_rdv }
  | .vsseg3e64V => { name := "vsseg3e64.v", id := 1029, codec := .v_ldst_u, regs := rf_rdv }
  | .vlsseg3e64V => { name := "vlsseg3e64.v", id := 1030, codec := .v_ldst, regs := rf_rdv }
  | .vssseg3e64V => { name := "vssseg3e64.v", id := 1031, codec := .v_ldst, regs := rf_rdv }
  | .vluxseg3ei64V => { name := "vluxseg3ei64.v", id := 1032, codec := .v_ldst, regs := rf_rdv_rs2v }
  | .vsuxseg3ei64V => { name := "vsuxseg3ei64.v", id := 1033, codec := .v_ldst, regs := rf_rdv_rs2v }
  | .vloxseg3ei64V => { name := "vloxseg3ei64.v", id := 1034, codec := .v_ldst, regs := rf_rdv_rs2v }
  | .vsoxseg3ei64V => { name := "vsoxseg3ei64.v", id := 1035, codec := .v_ldst, regs := rf_rdv_rs2v }
  | .vlseg4e64V => { name := "vlseg4e64.v", id := 1036, codec := .v_ldst_u, regs := rf_rdv }
  | .vlseg4e64ffV => { name := "vlseg4e64ff.v", id := 1037, codec := .v_ldst_u, regs := rf_rdv }
  | .vsseg4e64V => { name := "vsseg4e64.v", id := 1038, codec := .v_ldst_u, regs := rf_rdv }
  | .vlsseg4e64V => { name := "vlsseg4e64.v", id := 1039, codec := .v_ldst, regs := rf_rdv }
  | .vssseg4e64V => { name := "vssseg4e64.v", id := 1040, codec := .v_ldst, regs := rf_rdv }
  | .vluxseg4ei64V => { name := "vluxseg4ei64.v", id := 1041, codec := .v_ldst, regs := rf_rdv_rs2v }
  | .vsuxseg4ei64V => { name := "vsuxseg4ei64.v", id := 1042, codec := .v_ldst, regs := rf_rdv_rs2v }
  | .vloxseg4ei64V => { name := "vloxseg4ei64.v", id := 1043, codec := .v_ldst, regs := rf_rdv_rs2v }
  | .vsoxseg4ei64V => { name := "vsoxseg4ei64.v", id := 1044, codec := .v_ldst, regs := rf_rdv_rs2v }
  | .vlseg5e64V => { name := "vlseg5e64.v", id := 1045, codec := .v_ldst_u, regs := rf_rdv }
  | .vlseg5e64ffV => { name := "vlseg5e64ff.v", id := 1046, codec := .v_ldst_u, regs := rf_rdv }
  | .vsseg5e64V => { name := "vsseg5e64.v", id := 1047, codec := .v_ldst_u, regs := rf_rdv }
  | .vlsseg5e64V => { name := "vlsseg5e64.v", id := 1048, codec := .v_ldst, regs := rf_rdv }
  | .vssseg5e64V => { name := "vssseg5e64.v", id := 1049, codec := .v_ldst, regs := rf_rdv }
  | .vluxseg5ei64V => { name := "vluxseg5ei64.v", id := 1050, codec := .v_ldst, regs := rf_rdv_rs2v }
  | .vsuxseg5ei64V => { name := "vsuxseg5ei64.v", id := 1051, codec := .v_ldst, regs := rf_rdv_rs2v }
  | .vloxseg5ei64V => { name := "vloxseg5ei64.v", id := 1052, codec := .v_ldst, regs := rf_rdv_rs2v }
  | .vsoxseg5ei64V => { name := "vsoxseg5ei64.v", id := 1053, codec := .v_ldst, regs := rf_rdv_rs2v }
  | .vlseg6e64V => { name := "vlseg6e64.v", id := 1054, codec := .v_ldst_u, regs := rf_rdv }
  | .vlseg6e64ffV => { name := "vlseg6e64ff.v", id := 1055, codec := .v_ldst_u, regs := rf_rdv }
  | .vsseg6e64V => { name := "vsseg6e64.v", id := 1056, codec := .v_ldst_u, regs := rf_rdv }
  | .vlsseg6e64V => { name := "vlsseg6e64.v", id := 1057, codec := .v_ldst, regs := rf_rdv }
  | .vssseg6e64V => { name := "vssseg6e64.v", id := 1058, codec := .v_ldst, regs := rf_rdv }
  | .vluxseg6ei64V => { name := "vluxseg6ei64.v", id := 1059, codec := .v_ldst, regs := rf_rdv_rs2v }
  | .vsuxseg6ei64V => { name := "vsuxseg6ei64.v", id := 1060, codec := .v_ldst, regs := rf_rdv_rs2v }
  | .vloxseg6ei64V => { name := "vloxseg6ei64.v", id := 1061, codec := .v_ldst, regs := rf_rdv_rs2v }
  | .vsoxseg6ei64V => { name := "vsoxseg6ei64.v", id := 1062, codec := .v_ldst, regs := rf_rdv_rs2v }
  | .vlseg7e64V => { name := "vlseg7e64.v", id := 1063, codec := .v_ldst_u, regs := rf_rdv }
  | .vlseg7e64ffV => { name := "vlseg7e64ff.v", id := 1064, codec := .v_ldst_u, regs := rf_rdv }
  | .vsseg7e64V => { name := "vsseg7e64.v", id := 1065, codec := .v_ldst_u, regs := rf_rdv }
  | .vlsseg7e64V => { name := "vlsseg7e64.v", id := 1066, codec := .v_ldst, regs := rf_rdv }
  | .vssseg7e64V => { name := "vssseg7e64.v", id := 1067, codec := .v_ldst, regs := rf_rdv }
  | .vluxseg7ei64V => { name := "vluxseg7ei64.v", id := 1068, codec := .v_ldst, regs := rf_rdv_rs2v }
  | .vsuxseg7ei64V => { name := "vsuxseg7ei64.v", id := 1069, codec := .v_ldst, regs := rf_rdv_rs2v }
  | .vloxseg7ei64V => { name := "vloxseg7ei64.v", id := 1070, codec := .v_ldst, regs := rf_rdv_rs2v }
  | .vsoxseg7ei64V => { name := "vsoxseg7ei64.v", id := 1071, codec := .v_ldst, regs := rf_rdv_rs2v }
  | .vlseg8e64V => { name := "vlseg8e64.v", id := 1072, codec := .v_ldst_u, regs := rf_rdv }
  | .vlseg8e64ffV => { name := "vlseg8e64ff.v", id := 1073, codec := .v_ldst_u, regs := rf_rdv }
  | .vsseg8e64V => { name := "vsseg8e64.v", id := 1074, codec := .v_ldst_u, regs := rf_rdv }
  | .vlsseg8e64V => { name := "vlsseg8e64.v", id := 1075, codec := .v_ldst, regs := rf_rdv }
  | .vssseg8e64V => { name := "vssseg8e64.v", id := 1076, codec := .v_ldst, regs := rf_rdv }
  | .vluxseg8ei64V => { name := "vluxseg8ei64.v", id := 1077, codec := .v_ldst, regs := rf_rdv_rs2v }
  | .vsuxseg8ei64V => { name := "vsuxseg8ei64.v", id := 1078, codec := .v_ldst, regs := rf_rdv_rs2v }
  | .vloxseg8ei64V => { name := "vloxseg8ei64.v", id := 1079, codec := .v_ldst, regs := rf_rdv_rs2v }
  | .vsoxseg8ei64V => { name := "vsoxseg8ei64.v", id := 1080, codec := .v_ldst, regs := rf_rdv_rs2v }
  | .vl1re64V => { name := "vl1re64.v", id := 1081, codec := .v_ldst_u, regs := rf_rdv }
  | .vl2re64V => { name := "vl2re64.v", id := 1082, codec := .v_ldst_u, regs := rf_rdv }
  | .vl4re64V => { name := "vl4re64.v", id := 1083, codec := .v_ldst_u, regs := rf_rdv }
  | .vl8re64V => { name := "vl8re64.v", id := 1084, codec := .v_ldst_u, regs := rf_rdv }
  | .vs1rV => { name := "vs1r.v", id := 1085, codec := .v_ldst_u, regs := rf_rdv }
  | .vs2rV => { name := "vs2r.v", id := 1086, codec := .v_ldst_u, regs := rf_rdv }
  | .vs4rV => { name := "vs4r.v", id := 1087, codec := .v_ldst_u, regs := rf_rdv }
  | .vs8rV => { name := "vs8r.v", id := 1088, codec := .v_ldst_u, regs := rf_rdv }
  | .vlmV => { name := "vlm.v", id := 1089, codec := .v_ldst_u, regs := rf_rdv }
  | .vsmV => { name := "vsm.v", id := 1090, codec := .v_ldst_u, regs := rf_rdv }
  -- Vendor (47_vendor)
  | .thAddsl => { name := "th.addsl", id := 1, codec := .r_imm2, catalog := .xthead }
  | .thSrri => { name := "th.srri", id := 2, codec := .r2_imm6, catalog := .xthead }
  | .thSrriw => { name := "th.srriw", id := 3, codec := .r2_imm5, catalog := .xthead }
  | .thExt => { name := "th.ext", id := 4, codec := .r2_immhl, catalog := .xthead }
  | .thExtu => { name := "th.extu", id := 5, codec := .r2_immhl, catalog := .xthead }
  | .thFf0 => { name := "th.ff0", id := 6, codec := .r2, catalog := .xthead }
  | .thFf1 => { name := "th.ff1", id := 7, codec := .r2, catalog := .xthead }
  | .thRev => { name := "th.rev", id := 8, codec := .r2, catalog := .xthead }
  | .thRevw => { name := "th.revw", id := 9, codec := .r2, catalog := .xthead }
  | .thTstnbz => { name := "th.tstnbz", id := 10, codec := .r2, catalog := .xthead }
  | .thTst => { name := "th.tst", id := 11, codec := .r2_imm6, catalog := .xthead }
  | .thMveqz => { name := "th.mveqz", id := 12, codec := .r, catalog := .xthead }
  | .thMvnez => { name := "th.mvnez", id := 13, codec := .r, catalog := .xthead }
  | .vtMaskc => { name := "vt.maskc", id := 1, codec := .r, catalog := .xventana }
  | .vtMaskcn => { name := "vt.maskcn", id := 2, codec := .r, catalog := .xventana }
  -- Pseudo-instructions (48_pseudo)
  | .nop => { name := "nop", id := 1091, codec := .i, canonical := some .addi }
  | .mv => { name := "mv", id := 1092, codec := .i, canonical := some .addi }
  | .li => { name := "li", id := 1093, codec := .i, canonical := some .addi }
  | .sextW => { name := "sext.w", id := 1094, codec := .i, canonical := some .addiw }
  | .not => { name := "not", id := 1095, codec := .i, canonical := some .xori }
  | .seqz => { name := "seqz", id := 1096, codec := .i, canonical := some .sltiu }
  | .snez => { name := "snez", id := 1097, codec := .r, canonical := some .sltu }
  | .sltz => { name := "sltz", id := 1098, codec := .r, canonical := some .slt }
  | .sgtz => { name := "sgtz", id := 1099, codec := .r, canonical := some .slt }
  | .neg => { name := "neg", id := 1100, codec := .r, canonical := some .sub }
  | .negw => { name := "negw", id := 1101, codec := .r, canonical := some .subw }
  | .beqz => { name := "beqz", id := 1102, codec := .b, canonical := some .beq }
  | .bnez => { name := "bnez", id := 1103, codec := .b, canonical := some .bne }
  | .bltz => { name := "bltz", id := 1104, codec := .b, canonical := some .blt }
  | .bgtz => { name := "bgtz", id := 1105, codec := .b, canonical := some .blt }
  | .blez => { name := "blez", id := 1106, codec := .b, canonical := some .bge }
  | .bgez => { name := "bgez", id := 1107, codec := .b, canonical := some .bge }
  | .j => { name := "j", id := 1108, codec := .j, canonical := some .jal }
  | .jalP => { name := "jal", id := 1109, codec := .j, canonical := some .jal }
  | .ret => { name := "ret", id := 1110, codec := .i, canonical := some .jalr }
  | .jr => { name := "jr", id := 1111, codec := .i, canonical := some .jalr }
  | .jalrP => { name := "jalr", id := 1112, codec := .i, canonical := some .jalr }
  | .fsrm => { name := "fsrm", id := 1113, codec := .i_csr, canonical := some .csrrw }
  | .fsflags => { name := "fsflags", id := 1114, codec := .i_csr, canonical := some .csrrw }
  | .fscsr => { name := "fscsr", id := 1115, codec := .i_csr, canonical := some .csrrw }
  | .csrw => { name := "csrw", id := 1116, codec := .i_csr, canonical := some .csrrw }
  | .rdcycle => { name := "rdcycle", id := 1117, codec := .i_csr, canonical := some .csrrs }
  | .rdtime => { name := "rdtime", id := 1118, codec := .i_csr, canonical := some .csrrs }
  | .rdinstret => { name := "rdinstret", id := 1119, codec := .i_csr, canonical := some .csrrs }
  | .rdcycleh => { name := "rdcycleh", id := 1120, codec := .i_csr, canonical := some .csrrs }
  | .rdtimeh => { name := "rdtimeh", id := 1121, codec := .i_csr, canonical := some .csrrs }
  | .rdinstreth => { name := "rdinstreth", id := 1122, codec := .i_csr, canonical := some .csrrs }
  | .frcsr => { name := "frcsr", id := 1123, codec := .i_csr, canonical := some .csrrs }
  | .frrm => { name := "frrm", id := 1124, codec := .i_csr, canonical := some .csrrs }
  | .frflags => { name := "frflags", id := 1125, codec := .i_csr, canonical := some .csrrs }
  | .csrr => { name := "csrr", id := 1126, codec := .i_csr, canonical := some .csrrs }
  | .csrs => { name := "csrs", id := 1127, codec := .i_csr, canonical := some .csrrs }
  | .csrc => { name := "csrc", id := 1128, codec := .i_csr, canonical := some .csrrc }
  | .fsrmi => { name := "fsrmi", id := 1129, codec := .i_csri, canonical := some .csrrwi }
  | .fsflagsi => { name := "fsflagsi", id := 1130, codec := .i_csri, canonical := some .csrrwi }
  | .csrwi => { name := "csrwi", id := 1131, codec := .i_csri, canonical := some .csrrwi }
  | .csrsi => { name := "csrsi", id := 1132, codec := .i_csri, canonical := some .csrrsi }
  | .csrci => { name := "csrci", id := 1133, codec := .i_csri, canonical := some .csrrci }
  | .fmvS => { name := "fmv.s", id := 1134, codec := .r, regs := rf_rdf_rs1f_rs2f_rs3f, canonical := some .fsgnjS }
  | .fnegS => { name := "fneg.s", id := 1135, codec := .r, regs := rf_rdf_rs1f_rs2f_rs3f, canonical := some .fsgnjnS }
  | .fabsS => { name := "fabs.s", id := 1136, codec := .r, regs := rf_rdf_rs1f_rs2f_rs3f, canonical := some .fsgnjxS }
  | .fmvD => { name := "fmv.d", id := 1137, codec := .r, regs := rf_rdf_rs1f_rs2f_rs3f, canonical := some .fsgnjD }
  | .fnegD => { name := "fneg.d", id := 1138, codec := .r, regs := rf_rdf_rs1f_rs2f_rs3f, canonical := some .fsgnjnD }
  | .fabsD => { name := "fabs.d", id := 1139, codec := .r, regs := rf_rdf_rs1f_rs2f_rs3f, canonical := some .fsgnjxD }
  | .fmvH => { name := "fmv.h", id := 1140, codec := .r, regs := rf_rdf_rs1f_rs2f_rs3f, canonical := some .fsgnjH }
  | .fnegH => { name := "fneg.h", id := 1141, codec := .r, regs := rf_rdf_rs1f_rs2f_rs3f, canonical := some .fsgnjnH }
  | .fabsH => { name := "fabs.h", id := 1142, codec := .r, regs := rf_rdf_rs1f_rs2f_rs3f, canonical := some .fsgnjxH }
  | .fmvQ => { name := "fmv.q", id := 1143, codec := .r, regs := rf_rdf_rs1f_rs2f_rs3f, canonical := some .fsgnjQ }
  | .fnegQ => { name := "fneg.q", id := 1144, codec := .r, regs := rf_rdf_rs1f_rs2f_rs3f, canonical := some .fsgnjnQ }
  | .fabsQ => { name := "fabs.q", id := 1145, codec := .r, regs := rf_rdf_rs1f_rs2f_rs3f, canonical := some .fsgnjxQ }
  | .zextW => { name := "zext.w", id := 1146, codec := .r, canonical := some .addUw }
  | .vnotV => { name := "vnot.v", id := 1147, codec := .v_i, regs := rf_rdv_rs2v, canonical := some .vxorVi }
  | .vnegV => { name := "vneg.v", id := 1148, codec := .v_r, regs := rf_rdv_rs2v, canonical := some .vrsubVx }
  | .vwcvtXXV => { name := "vwcvt.x.x.v", id := 1149, codec := .v_r, regs := rf_rdv_rs2v, canonical := some .vwaddVx }
  | .vwcvtuXXV => { name := "vwcvtu.x.x.v", id := 1150, codec := .v_r, regs := rf_rdv_rs2v, canonical := some .vwadduVx }
  | .vncvtXXW => { name := "vncvt.x.x.w", id := 1151, codec := .v_r, regs := rf_rdv_rs2v, canonical := some .vnsrlWx }
  | .vmmvM => { name := "vmmv.m", id := 1152, codec := .v_r, regs := rf_rdv_rs1v_rs2v, canonical := some .vmandMm }
  | .vmnotM => { name := "vmnot.m", id := 1153, codec := .v_r, regs := rf_rdv_rs1v_rs2v, canonical := some .vmnandMm }
  | .vmclrM => { name := "vmclr.m", id := 1154, codec := .v_r, regs := rf_rdv_rs1v_rs2v, canonical := some .vmxorMm }
  | .vmsetM => { name := "vmset.m", id := 1155, codec := .v_r, regs := rf_rdv_rs1v_rs2v, canonical := some .vmxnorMm }
  | .vfnegV => { name := "vfneg.v", id := 1156, codec := .v_r, regs := rf_rdv_rs1v_rs2v, canonical := some .vfsgnjnVv }
  | .vfabsV => { name := "vfabs.v", id := 1157, codec := .v_r, regs := rf_rdv_rs1v_rs2v, canonical := some .vfsgnjxVv }

/-- The codec of the opcode's descriptor (R40). -/
def Instr.codec (i : Instr) : Codec := i.descriptor.codec

/-- The catalog the opcode belongs to (R38). -/
def Instr.catalog (i : Instr) : Catalog := i.descriptor.catalog

/-- The opcode's number in its catalog, from 1 (R39). -/
def Instr.id (i : Instr) : Nat := i.descriptor.id

/-- The byte length of the opcode's encoding (R64). -/
def Instr.length (i : Instr) : Nat := i.descriptor.length

/-- The decompression target at this XLEN, if there is one (R208). -/
def Instr.target (i : Instr) (x : Xlen) : Option Instr :=
  match x with
  | .x32 => i.descriptor.target32
  | .x64 => i.descriptor.target64
  | .x128 => i.descriptor.target128

/-- The opcode whose encoding the opcode has: a pseudo-opcode's canonical opcode, every other opcode itself (48_pseudo.md). -/
def Instr.canonical (i : Instr) : Instr := i.descriptor.canonical.getD i

/-- The opcode the lifter gives for these operand fields: the first rule of the opcode's list whose constraints all hold,
or the opcode itself (R211). -/
def Instr.lifted (i : Instr) (o : Operands) : Instr :=
  match i.descriptor.pseudo.find? (PseudoRule.holds o) with
  | some p => p.op
  | none => i

end Sys2Proof
end

