-- ==== Sys2Proof/Machine/Row.lean ====
section
/-! DEFINITION. Machine/Row.lean: a decode row (30_encoding.md R110), its attributes (R114 to R116) and when it matches
(40_pipeline.md R203). -/

namespace Sys2Proof

/-- The value of a configuration flag (R9). -/
def Cfg.get (c : Cfg) (f : Flag) : Bool :=
  match f with
  | .zcmp => c.zcmp
  | .zcmt => c.zcmt
  | .fint => c.fint
  | .xtheadba => c.xtheadba
  | .xtheadbb => c.xtheadbb
  | .xtheadbs => c.xtheadbs
  | .xtheadcmo => c.xtheadcmo
  | .xtheadcondmov => c.xtheadcondmov
  | .xtheadfmemidx => c.xtheadfmemidx
  | .xtheadfmv => c.xtheadfmv
  | .xtheadmac => c.xtheadmac
  | .xtheadmemidx => c.xtheadmemidx
  | .xtheadmempair => c.xtheadmempair
  | .xtheadsync => c.xtheadsync
  | .xventanacondops => c.xventanacondops

/-- An exclusion (R115): a sub-pattern carved out of a row, with the XLEN values and the flag it is active under. -/
structure Excl where
  mask : Inst
  value : Inst
  xlens : List Xlen
  flag : Option Flag := none
deriving DecidableEq, Repr

/-- A decode row (R110). Its codec, decompression targets and nonzero-immediate flag stand in the opcode's descriptor. -/
structure Row where
  op : Instr
  nbits : Nat
  mask : Inst
  value : Inst
  xlens : List Xlen
  flag : Option Flag := none
  excl : List Excl := []
deriving DecidableEq, Repr

/-- An exclusion of an OPEN row: a sub-pattern and its XLEN values (R115). It has no flag: no row depends on `cfg` beyond its
tree's guard, but for the rows of R116. -/
structure VendorExcl where
  mask : Inst
  value : Inst
  xlens : List Xlen
deriving DecidableEq, Repr

/-- A row of an OPEN vendor tree, `VENDOR_ROWS(flag)` (00_scope.md R10), of the shape of the rows of 47_vendor.md: a 32-bit
row of the xthead catalog. `id` is its opcode's number there (assumption log 8). -/
structure VendorRow where
  tree : Flag
  id : Nat
  mask : Inst
  value : Inst
  xlens : List Xlen
  excl : List VendorExcl := []
  codec : Codec
deriving DecidableEq, Repr

/-- A required flag, if there is one, is 1 (R116). -/
def flagHolds (cfg : Cfg) (f : Option Flag) : Bool :=
  match f with
  | none => true
  | some f => cfg.get f

/-- The exclusion is active (its XLEN set holds XLEN and its flag, if any, is 1) and the word is in it (R115). -/
def Excl.hits (e : Excl) (w : Inst) (x : Xlen) (cfg : Cfg) : Bool :=
  e.xlens.contains x && flagHolds cfg e.flag && (w &&& e.mask == e.value)

/-- The row matches the word (R203): its width, XLEN set, flag, mask and match, and no active exclusion is hit. The fixed bits
are compared as the numbers of 00_scope.md R13. -/
def Row.matchesWord (r : Row) (w : Inst) (len : Nat) (x : Xlen) (cfg : Cfg) : Bool :=
  (w.toNat &&& r.mask.toNat == r.value.toNat) && r.nbits == 8 * len && r.xlens.contains x && flagHolds cfg r.flag
    && !r.excl.any (fun e => e.hits w x cfg)

/-- The OPEN row's exclusion is active and the word is in it (R115). -/
def VendorExcl.hits (e : VendorExcl) (w : Inst) (x : Xlen) : Bool := e.xlens.contains x && (w &&& e.mask == e.value)

/-- The OPEN row matches the word: R203 for a row of 32 bits. -/
def VendorRow.matchesWord (r : VendorRow) (w : Inst) (len : Nat) (x : Xlen) : Bool :=
  (w.toNat &&& r.mask.toNat == r.value.toNat) && len == 4 && r.xlens.contains x && !r.excl.any (fun e => e.hits w x)

/-- A part of a decode tree: its rows, and the fixed bits they share, on which the tree discriminates first (R104). -/
structure Part where
  mask : Inst
  value : Inst
  rows : List Row
deriving DecidableEq, Repr

/-- The row of the part that matches the word: none is tried unless the word has the bits that all of them fix (R104). -/
def Part.search (p : Part) (w : Inst) (len : Nat) (x : Xlen) (cfg : Cfg) : Option Row :=
  if w.toNat &&& p.mask.toNat == p.value.toNat then p.rows.find? (fun r => r.matchesWord w len x cfg) else none

/-- The XLEN sets of the table. -/
def xAll : List Xlen := [.x32, .x64, .x128]
/-- XLEN 32 and 64. -/
def x32x64 : List Xlen := [.x32, .x64]
/-- XLEN 64 and 128. -/
def x64x128 : List Xlen := [.x64, .x128]
/-- XLEN 32 alone. -/
def x32 : List Xlen := [.x32]
/-- XLEN 64 alone. -/
def x64 : List Xlen := [.x64]
/-- XLEN 128 alone. -/
def x128 : List Xlen := [.x128]

end Sys2Proof
end

