-- ==== Sys2Proof/Machine/RowsBitmanip.lean ====
section
/-! DEFINITION. Machine/RowsBitmanip.lean: the rows of the bit-manipulation, Zicond and scalar crypto opcodes
(43_bitmanip_crypto),
as spec/opcode_table.json lists them (30_encoding.md R110), in parts by the fields the trees discriminate on first (R104). -/

namespace Sys2Proof

/-- `inst[6:0]` = 0110011: R3000 `sh1add` to R3079 `sha512sig1h`. -/
def partBitmanip1 : Part := ⟨0x0000007f#32, 0x00000033#32, [
  ⟨.sh1add, 32, 0xfe00707f#32, 0x20002033#32, x32x64, none, []⟩,
  ⟨.sh2add, 32, 0xfe00707f#32, 0x20004033#32, x32x64, none, []⟩,
  ⟨.sh3add, 32, 0xfe00707f#32, 0x20006033#32, x32x64, none, []⟩,
  ⟨.andn, 32, 0xfe00707f#32, 0x40007033#32, x32x64, none, []⟩,
  ⟨.orn, 32, 0xfe00707f#32, 0x40006033#32, x32x64, none, []⟩,
  ⟨.xnor, 32, 0xfe00707f#32, 0x40004033#32, x32x64, none, []⟩,
  ⟨.max, 32, 0xfe00707f#32, 0x0a006033#32, x32x64, none, []⟩,
  ⟨.maxu, 32, 0xfe00707f#32, 0x0a007033#32, x32x64, none, []⟩,
  ⟨.min, 32, 0xfe00707f#32, 0x0a004033#32, x32x64, none, []⟩,
  ⟨.minu, 32, 0xfe00707f#32, 0x0a005033#32, x32x64, none, []⟩,
  ⟨.rol, 32, 0xfe00707f#32, 0x60001033#32, x32x64, none, []⟩,
  ⟨.ror, 32, 0xfe00707f#32, 0x60005033#32, x32x64, none, []⟩,
  ⟨.zextH, 32, 0xfff0707f#32, 0x08004033#32, x32, none, []⟩,
  ⟨.clmul, 32, 0xfe00707f#32, 0x0a001033#32, x32x64, none, []⟩,
  ⟨.clmulr, 32, 0xfe00707f#32, 0x0a002033#32, x32x64, none, []⟩,
  ⟨.clmulh, 32, 0xfe00707f#32, 0x0a003033#32, x32x64, none, []⟩,
  ⟨.bclr, 32, 0xfe00707f#32, 0x48001033#32, x32x64, none, []⟩,
  ⟨.bext, 32, 0xfe00707f#32, 0x48005033#32, x32x64, none, []⟩,
  ⟨.binv, 32, 0xfe00707f#32, 0x68001033#32, x32x64, none, []⟩,
  ⟨.bset, 32, 0xfe00707f#32, 0x28001033#32, x32x64, none, []⟩,
  ⟨.pack, 32, 0xfe00707f#32, 0x08004033#32, x32x64, none, [⟨0xfff0707f#32, 0x08004033#32, x32, none⟩]⟩,
  ⟨.packh, 32, 0xfe00707f#32, 0x08007033#32, x32x64, none, []⟩,
  ⟨.xperm4, 32, 0xfe00707f#32, 0x28002033#32, x32x64, none, []⟩,
  ⟨.xperm8, 32, 0xfe00707f#32, 0x28004033#32, x32x64, none, []⟩,
  ⟨.czeroEqz, 32, 0xfe00707f#32, 0x0e005033#32, x32x64, none, []⟩,
  ⟨.czeroNez, 32, 0xfe00707f#32, 0x0e007033#32, x32x64, none, []⟩,
  ⟨.aes32esi, 32, 0x3e00707f#32, 0x22000033#32, x32, none, []⟩,
  ⟨.aes32esmi, 32, 0x3e00707f#32, 0x26000033#32, x32, none, []⟩,
  ⟨.aes32dsi, 32, 0x3e00707f#32, 0x2a000033#32, x32, none, []⟩,
  ⟨.aes32dsmi, 32, 0x3e00707f#32, 0x2e000033#32, x32, none, []⟩,
  ⟨.sm4ed, 32, 0x3e00707f#32, 0x30000033#32, x32x64, none, []⟩,
  ⟨.sm4ks, 32, 0x3e00707f#32, 0x34000033#32, x32x64, none, []⟩,
  ⟨.aes64es, 32, 0xfe00707f#32, 0x32000033#32, x64, none, []⟩,
  ⟨.aes64esm, 32, 0xfe00707f#32, 0x36000033#32, x64, none, []⟩,
  ⟨.aes64ds, 32, 0xfe00707f#32, 0x3a000033#32, x64, none, []⟩,
  ⟨.aes64dsm, 32, 0xfe00707f#32, 0x3e000033#32, x64, none, []⟩,
  ⟨.aes64ks2, 32, 0xfe00707f#32, 0x7e000033#32, x64, none, []⟩,
  ⟨.sha512sum0r, 32, 0xfe00707f#32, 0x50000033#32, x32, none, []⟩,
  ⟨.sha512sum1r, 32, 0xfe00707f#32, 0x52000033#32, x32, none, []⟩,
  ⟨.sha512sig0l, 32, 0xfe00707f#32, 0x54000033#32, x32, none, []⟩,
  ⟨.sha512sig1l, 32, 0xfe00707f#32, 0x56000033#32, x32, none, []⟩,
  ⟨.sha512sig0h, 32, 0xfe00707f#32, 0x5c000033#32, x32, none, []⟩,
  ⟨.sha512sig1h, 32, 0xfe00707f#32, 0x5e000033#32, x32, none, []⟩]⟩

/-- `inst[6:0]` = 0111011: R3003 `add.uw` to R3045 `packw`. -/
def partBitmanip2 : Part := ⟨0x0000007f#32, 0x0000003b#32, [
  ⟨.addUw, 32, 0xfe00707f#32, 0x0800003b#32, x64, none, []⟩,
  ⟨.sh1addUw, 32, 0xfe00707f#32, 0x2000203b#32, x64, none, []⟩,
  ⟨.sh2addUw, 32, 0xfe00707f#32, 0x2000403b#32, x64, none, []⟩,
  ⟨.sh3addUw, 32, 0xfe00707f#32, 0x2000603b#32, x64, none, []⟩,
  ⟨.zextH, 32, 0xfff0707f#32, 0x0800403b#32, x64, none, []⟩,
  ⟨.rolw, 32, 0xfe00707f#32, 0x6000103b#32, x64, none, []⟩,
  ⟨.rorw, 32, 0xfe00707f#32, 0x6000503b#32, x64, none, []⟩,
  ⟨.packw, 32, 0xfe00707f#32, 0x0800403b#32, x64, none, [⟨0xfff0707f#32, 0x0800403b#32, xAll, none⟩]⟩]⟩

/-- `inst[6:0]` = 0011011: R3007 `slli.uw` to R3031 `roriw`. -/
def partBitmanip3 : Part := ⟨0x0000007f#32, 0x0000001b#32, [
  ⟨.slliUw, 32, 0xfc00707f#32, 0x0800101b#32, x64, none, []⟩,
  ⟨.clzw, 32, 0xfff0707f#32, 0x6000101b#32, x64, none, []⟩,
  ⟨.ctzw, 32, 0xfff0707f#32, 0x6010101b#32, x64, none, []⟩,
  ⟨.cpopw, 32, 0xfff0707f#32, 0x6020101b#32, x64, none, []⟩,
  ⟨.roriw, 32, 0xfe00707f#32, 0x6000501b#32, x64, none, []⟩]⟩

/-- `inst[6:0]` = 0010011: R3011 `clz` to R3081 `sm3p1`. -/
def partBitmanip4 : Part := ⟨0x0000007f#32, 0x00000013#32, [
  ⟨.clz, 32, 0xfff0707f#32, 0x60001013#32, x32x64, none, []⟩,
  ⟨.ctz, 32, 0xfff0707f#32, 0x60101013#32, x32x64, none, []⟩,
  ⟨.cpop, 32, 0xfff0707f#32, 0x60201013#32, x32x64, none, []⟩,
  ⟨.sextB, 32, 0xfff0707f#32, 0x60401013#32, x32x64, none, []⟩,
  ⟨.sextH, 32, 0xfff0707f#32, 0x60501013#32, x32x64, none, []⟩,
  ⟨.rori, 32, 0xfe00707f#32, 0x60005013#32, x32, none, []⟩,
  ⟨.rori, 32, 0xfc00707f#32, 0x60005013#32, x64, none, []⟩,
  ⟨.orcB, 32, 0xfff0707f#32, 0x28705013#32, x32x64, none, []⟩,
  ⟨.rev8, 32, 0xfff0707f#32, 0x69805013#32, x32, none, []⟩,
  ⟨.rev8, 32, 0xfff0707f#32, 0x6b805013#32, x64, none, []⟩,
  ⟨.bclri, 32, 0xfe00707f#32, 0x48001013#32, x32, none, []⟩,
  ⟨.bclri, 32, 0xfc00707f#32, 0x48001013#32, x64, none, []⟩,
  ⟨.bexti, 32, 0xfe00707f#32, 0x48005013#32, x32, none, []⟩,
  ⟨.bexti, 32, 0xfc00707f#32, 0x48005013#32, x64, none, []⟩,
  ⟨.binvi, 32, 0xfe00707f#32, 0x68001013#32, x32, none, []⟩,
  ⟨.binvi, 32, 0xfc00707f#32, 0x68001013#32, x64, none, []⟩,
  ⟨.bseti, 32, 0xfe00707f#32, 0x28001013#32, x32, none, []⟩,
  ⟨.bseti, 32, 0xfc00707f#32, 0x28001013#32, x64, none, []⟩,
  ⟨.brev8, 32, 0xfff0707f#32, 0x68705013#32, x32x64, none, []⟩,
  ⟨.zip, 32, 0xfff0707f#32, 0x08f01013#32, x32, none, []⟩,
  ⟨.unzip, 32, 0xfff0707f#32, 0x08f05013#32, x32, none, []⟩,
  ⟨.aes64im, 32, 0xfff0707f#32, 0x30001013#32, x64, none, []⟩,
  ⟨.aes64ks1i, 32, 0xff00707f#32, 0x31001013#32, x64, none, [⟨0xfff0707f#32, 0x31b01013#32, xAll, none⟩, ⟨0xfff0707f#32, 0x31c01013#32, xAll, none⟩, ⟨0xfff0707f#32, 0x31d01013#32, xAll, none⟩, ⟨0xfff0707f#32, 0x31e01013#32, xAll, none⟩, ⟨0xfff0707f#32, 0x31f01013#32, xAll, none⟩]⟩,
  ⟨.sha256sum0, 32, 0xfff0707f#32, 0x10001013#32, x32x64, none, []⟩,
  ⟨.sha256sum1, 32, 0xfff0707f#32, 0x10101013#32, x32x64, none, []⟩,
  ⟨.sha256sig0, 32, 0xfff0707f#32, 0x10201013#32, x32x64, none, []⟩,
  ⟨.sha256sig1, 32, 0xfff0707f#32, 0x10301013#32, x32x64, none, []⟩,
  ⟨.sha512sum0, 32, 0xfff0707f#32, 0x10401013#32, x64, none, []⟩,
  ⟨.sha512sum1, 32, 0xfff0707f#32, 0x10501013#32, x64, none, []⟩,
  ⟨.sha512sig0, 32, 0xfff0707f#32, 0x10601013#32, x64, none, []⟩,
  ⟨.sha512sig1, 32, 0xfff0707f#32, 0x10701013#32, x64, none, []⟩,
  ⟨.sm3p0, 32, 0xfff0707f#32, 0x10801013#32, x32x64, none, []⟩,
  ⟨.sm3p1, 32, 0xfff0707f#32, 0x10901013#32, x32x64, none, []⟩]⟩

/-- The parts of this file. -/
def partsBitmanip : List Part :=
  [partBitmanip1, partBitmanip2, partBitmanip3, partBitmanip4]

end Sys2Proof
end

