-- ==== Sys2Proof/Machine/RowsCompressed.lean ====
section
/-! DEFINITION. Machine/RowsCompressed.lean: the 16-bit rows of C, Zcb, Zcmp and Zcmt (44_compressed),
as spec/opcode_table.json lists them (30_encoding.md R110), in parts by the fields the trees discriminate on first (R104). -/

namespace Sys2Proof

/-- `inst[1:0]` = 00, `inst[15:13]` = 000: R4000 `c.addi4spn`. -/
def partCompressed1 : Part := ⟨0xe003#32, 0x0000#32, [
  ⟨.cAddi4spn, 16, 0xe003#32, 0x0000#32, xAll, none, []⟩]⟩

/-- `inst[1:0]` = 00, `inst[15:13]` = 001: R4001 `c.fld` to R4002 `c.lq`. -/
def partCompressed2 : Part := ⟨0xe003#32, 0x2000#32, [
  ⟨.cFld, 16, 0xe003#32, 0x2000#32, x32x64, none, []⟩,
  ⟨.cLq, 16, 0xe003#32, 0x2000#32, x128, none, []⟩]⟩

/-- `inst[1:0]` = 00, `inst[15:13]` = 010: R4003 `c.lw`. -/
def partCompressed3 : Part := ⟨0xe003#32, 0x4000#32, [
  ⟨.cLw, 16, 0xe003#32, 0x4000#32, xAll, none, []⟩]⟩

/-- `inst[1:0]` = 00, `inst[15:13]` = 011: R4004 `c.flw` to R4005 `c.ld`. -/
def partCompressed4 : Part := ⟨0xe003#32, 0x6000#32, [
  ⟨.cFlw, 16, 0xe003#32, 0x6000#32, x32, none, []⟩,
  ⟨.cLd, 16, 0xe003#32, 0x6000#32, x64x128, none, []⟩]⟩

/-- `inst[1:0]` = 00, `inst[15:13]` = 100: R4006 `c.lbu` to R4010 `c.sh`. -/
def partCompressed5 : Part := ⟨0xe003#32, 0x8000#32, [
  ⟨.cLbu, 16, 0xfc03#32, 0x8000#32, xAll, none, []⟩,
  ⟨.cLhu, 16, 0xfc43#32, 0x8400#32, xAll, none, []⟩,
  ⟨.cLh, 16, 0xfc43#32, 0x8440#32, xAll, none, []⟩,
  ⟨.cSb, 16, 0xfc03#32, 0x8800#32, xAll, none, []⟩,
  ⟨.cSh, 16, 0xfc43#32, 0x8c00#32, xAll, none, []⟩]⟩

/-- `inst[1:0]` = 00, `inst[15:13]` = 101: R4011 `c.fsd` to R4012 `c.sq`. -/
def partCompressed6 : Part := ⟨0xe003#32, 0xa000#32, [
  ⟨.cFsd, 16, 0xe003#32, 0xa000#32, x32x64, none, []⟩,
  ⟨.cSq, 16, 0xe003#32, 0xa000#32, x128, none, []⟩]⟩

/-- `inst[1:0]` = 00, `inst[15:13]` = 110: R4013 `c.sw`. -/
def partCompressed7 : Part := ⟨0xe003#32, 0xc000#32, [
  ⟨.cSw, 16, 0xe003#32, 0xc000#32, xAll, none, []⟩]⟩

/-- `inst[1:0]` = 00, `inst[15:13]` = 111: R4014 `c.fsw` to R4015 `c.sd`. -/
def partCompressed8 : Part := ⟨0xe003#32, 0xe000#32, [
  ⟨.cFsw, 16, 0xe003#32, 0xe000#32, x32, none, []⟩,
  ⟨.cSd, 16, 0xe003#32, 0xe000#32, x64x128, none, []⟩]⟩

/-- `inst[1:0]` = 01, `inst[15:13]` = 000: R4016 `c.nop` to R4017 `c.addi`. -/
def partCompressed9 : Part := ⟨0xe003#32, 0x0001#32, [
  ⟨.cNop, 16, 0xffff#32, 0x0001#32, xAll, none, []⟩,
  ⟨.cAddi, 16, 0xe003#32, 0x0001#32, xAll, none, [⟨0xffff#32, 0x0001#32, xAll, none⟩]⟩]⟩

/-- `inst[1:0]` = 01, `inst[15:13]` = 001: R4018 `c.jal` to R4019 `c.addiw`. -/
def partCompressed10 : Part := ⟨0xe003#32, 0x2001#32, [
  ⟨.cJal, 16, 0xe003#32, 0x2001#32, x32, none, []⟩,
  ⟨.cAddiw, 16, 0xe003#32, 0x2001#32, x64x128, none, [⟨0xef83#32, 0x2001#32, xAll, none⟩]⟩]⟩

/-- `inst[1:0]` = 01, `inst[15:13]` = 010: R4020 `c.li`. -/
def partCompressed11 : Part := ⟨0xe003#32, 0x4001#32, [
  ⟨.cLi, 16, 0xe003#32, 0x4001#32, xAll, none, []⟩]⟩

/-- `inst[1:0]` = 01, `inst[15:13]` = 011: R4021 `c.addi16sp` to R4022 `c.lui`. -/
def partCompressed12 : Part := ⟨0xe003#32, 0x6001#32, [
  ⟨.cAddi16sp, 16, 0xef83#32, 0x6101#32, xAll, none, []⟩,
  ⟨.cLui, 16, 0xe003#32, 0x6001#32, xAll, none, [⟨0xef83#32, 0x6101#32, xAll, none⟩]⟩]⟩

/-- `inst[1:0]` = 01, `inst[15:13]` = 100: R4023 `c.srli` to R4038 `c.not`. With `inst[12:10]` = 111 and XLEN 32, the last line
of R120 calls `inst[6:5]` = 10 and 11 illegal, "the `c.subw`/`c.addw` slots", which R4030 and R4031 put at 00 and 01; R118 and
R4032 to R4038 give 10 and 11 rows at XLEN 32. The model follows the rows: DESIGN CHOICE, unsafe (assumption log 19). -/
def partCompressed13 : Part := ⟨0xe003#32, 0x8001#32, [
  ⟨.cSrli, 16, 0xec03#32, 0x8001#32, xAll, none, [⟨0xfc03#32, 0x9001#32, x32, none⟩]⟩,
  ⟨.cSrai, 16, 0xec03#32, 0x8401#32, xAll, none, [⟨0xfc03#32, 0x9401#32, x32, none⟩]⟩,
  ⟨.cAndi, 16, 0xec03#32, 0x8801#32, xAll, none, []⟩,
  ⟨.cSub, 16, 0xfc63#32, 0x8c01#32, xAll, none, []⟩,
  ⟨.cXor, 16, 0xfc63#32, 0x8c21#32, xAll, none, []⟩,
  ⟨.cOr, 16, 0xfc63#32, 0x8c41#32, xAll, none, []⟩,
  ⟨.cAnd, 16, 0xfc63#32, 0x8c61#32, xAll, none, []⟩,
  ⟨.cSubw, 16, 0xfc63#32, 0x9c01#32, x64x128, none, []⟩,
  ⟨.cAddw, 16, 0xfc63#32, 0x9c21#32, x64x128, none, []⟩,
  ⟨.cMul, 16, 0xfc63#32, 0x9c41#32, xAll, none, []⟩,
  ⟨.cZextB, 16, 0xfc7f#32, 0x9c61#32, xAll, none, []⟩,
  ⟨.cSextB, 16, 0xfc7f#32, 0x9c65#32, xAll, none, []⟩,
  ⟨.cZextH, 16, 0xfc7f#32, 0x9c69#32, xAll, none, []⟩,
  ⟨.cSextH, 16, 0xfc7f#32, 0x9c6d#32, xAll, none, []⟩,
  ⟨.cZextW, 16, 0xfc7f#32, 0x9c71#32, x64, none, []⟩,
  ⟨.cNot, 16, 0xfc7f#32, 0x9c75#32, xAll, none, []⟩]⟩

/-- `inst[1:0]` = 01, `inst[15:13]` = 101: R4039 `c.j`. -/
def partCompressed14 : Part := ⟨0xe003#32, 0xa001#32, [
  ⟨.cJ, 16, 0xe003#32, 0xa001#32, xAll, none, []⟩]⟩

/-- `inst[1:0]` = 01, `inst[15:13]` = 110: R4040 `c.beqz`. -/
def partCompressed15 : Part := ⟨0xe003#32, 0xc001#32, [
  ⟨.cBeqz, 16, 0xe003#32, 0xc001#32, xAll, none, []⟩]⟩

/-- `inst[1:0]` = 01, `inst[15:13]` = 111: R4041 `c.bnez`. -/
def partCompressed16 : Part := ⟨0xe003#32, 0xe001#32, [
  ⟨.cBnez, 16, 0xe003#32, 0xe001#32, xAll, none, []⟩]⟩

/-- `inst[1:0]` = 10, `inst[15:13]` = 000: R4042 `c.slli`. -/
def partCompressed17 : Part := ⟨0xe003#32, 0x0002#32, [
  ⟨.cSlli, 16, 0xe003#32, 0x0002#32, xAll, none, [⟨0xf003#32, 0x1002#32, x32, none⟩]⟩]⟩

/-- `inst[1:0]` = 10, `inst[15:13]` = 001: R4043 `c.fldsp` to R4044 `c.lqsp`. -/
def partCompressed18 : Part := ⟨0xe003#32, 0x2002#32, [
  ⟨.cFldsp, 16, 0xe003#32, 0x2002#32, x32x64, none, []⟩,
  ⟨.cLqsp, 16, 0xe003#32, 0x2002#32, x128, none, [⟨0xef83#32, 0x2002#32, xAll, none⟩]⟩]⟩

/-- `inst[1:0]` = 10, `inst[15:13]` = 010: R4045 `c.lwsp`. -/
def partCompressed19 : Part := ⟨0xe003#32, 0x4002#32, [
  ⟨.cLwsp, 16, 0xe003#32, 0x4002#32, xAll, none, [⟨0xef83#32, 0x4002#32, xAll, none⟩]⟩]⟩

/-- `inst[1:0]` = 10, `inst[15:13]` = 011: R4046 `c.flwsp` to R4047 `c.ldsp`. -/
def partCompressed20 : Part := ⟨0xe003#32, 0x6002#32, [
  ⟨.cFlwsp, 16, 0xe003#32, 0x6002#32, x32, none, []⟩,
  ⟨.cLdsp, 16, 0xe003#32, 0x6002#32, x64x128, none, [⟨0xef83#32, 0x6002#32, xAll, none⟩]⟩]⟩

/-- `inst[1:0]` = 10, `inst[15:13]` = 100: R4048 `c.jr` to R4052 `c.add`. -/
def partCompressed21 : Part := ⟨0xe003#32, 0x8002#32, [
  ⟨.cJr, 16, 0xf07f#32, 0x8002#32, xAll, none, [⟨0xffff#32, 0x8002#32, xAll, none⟩]⟩,
  ⟨.cMv, 16, 0xf003#32, 0x8002#32, xAll, none, [⟨0xf07f#32, 0x8002#32, xAll, none⟩]⟩,
  ⟨.cEbreak, 16, 0xffff#32, 0x9002#32, xAll, none, []⟩,
  ⟨.cJalr, 16, 0xf07f#32, 0x9002#32, xAll, none, [⟨0xffff#32, 0x9002#32, xAll, none⟩]⟩,
  ⟨.cAdd, 16, 0xf003#32, 0x9002#32, xAll, none, [⟨0xf07f#32, 0x9002#32, xAll, none⟩]⟩]⟩

/-- `inst[1:0]` = 10, `inst[15:13]` = 101: R4053 `c.fsdsp` to R4065 `cm.jalt`. -/
def partCompressed22 : Part := ⟨0xe003#32, 0xa002#32, [
  ⟨.cFsdsp, 16, 0xe003#32, 0xa002#32, x32x64, none, [⟨0xf903#32, 0xb802#32, xAll, some .zcmp⟩, ⟨0xfc23#32, 0xac22#32, xAll, some .zcmp⟩, ⟨0xfc03#32, 0xa002#32, xAll, some .zcmt⟩]⟩,
  ⟨.cSqsp, 16, 0xe003#32, 0xa002#32, x128, none, [⟨0xf903#32, 0xb802#32, xAll, some .zcmp⟩, ⟨0xfc23#32, 0xac22#32, xAll, some .zcmp⟩, ⟨0xfc03#32, 0xa002#32, xAll, some .zcmt⟩]⟩,
  ⟨.cmPush, 16, 0xff03#32, 0xb802#32, xAll, some .zcmp, [⟨0xfff3#32, 0xb802#32, xAll, none⟩, ⟨0xfff3#32, 0xb812#32, xAll, none⟩, ⟨0xfff3#32, 0xb822#32, xAll, none⟩, ⟨0xfff3#32, 0xb832#32, xAll, none⟩]⟩,
  ⟨.cmPop, 16, 0xff03#32, 0xba02#32, xAll, some .zcmp, [⟨0xfff3#32, 0xba02#32, xAll, none⟩, ⟨0xfff3#32, 0xba12#32, xAll, none⟩, ⟨0xfff3#32, 0xba22#32, xAll, none⟩, ⟨0xfff3#32, 0xba32#32, xAll, none⟩]⟩,
  ⟨.cmPopretz, 16, 0xff03#32, 0xbc02#32, xAll, some .zcmp, [⟨0xfff3#32, 0xbc02#32, xAll, none⟩, ⟨0xfff3#32, 0xbc12#32, xAll, none⟩, ⟨0xfff3#32, 0xbc22#32, xAll, none⟩, ⟨0xfff3#32, 0xbc32#32, xAll, none⟩]⟩,
  ⟨.cmPopret, 16, 0xff03#32, 0xbe02#32, xAll, some .zcmp, [⟨0xfff3#32, 0xbe02#32, xAll, none⟩, ⟨0xfff3#32, 0xbe12#32, xAll, none⟩, ⟨0xfff3#32, 0xbe22#32, xAll, none⟩, ⟨0xfff3#32, 0xbe32#32, xAll, none⟩]⟩,
  ⟨.cmMvsa01, 16, 0xfc63#32, 0xac22#32, xAll, some .zcmp, [⟨0xffff#32, 0xac22#32, xAll, none⟩, ⟨0xffff#32, 0xaca6#32, xAll, none⟩, ⟨0xffff#32, 0xad2a#32, xAll, none⟩, ⟨0xffff#32, 0xadae#32, xAll, none⟩, ⟨0xffff#32, 0xae32#32, xAll, none⟩, ⟨0xffff#32, 0xaeb6#32, xAll, none⟩, ⟨0xffff#32, 0xaf3a#32, xAll, none⟩, ⟨0xffff#32, 0xafbe#32, xAll, none⟩]⟩,
  ⟨.cmMva01s, 16, 0xfc63#32, 0xac62#32, xAll, some .zcmp, []⟩,
  ⟨.cmJt, 16, 0xff83#32, 0xa002#32, xAll, some .zcmt, []⟩,
  ⟨.cmJalt, 16, 0xfc03#32, 0xa002#32, xAll, some .zcmt, [⟨0xff83#32, 0xa002#32, xAll, none⟩]⟩]⟩

/-- `inst[1:0]` = 10, `inst[15:13]` = 110: R4055 `c.swsp`. -/
def partCompressed23 : Part := ⟨0xe003#32, 0xc002#32, [
  ⟨.cSwsp, 16, 0xe003#32, 0xc002#32, xAll, none, []⟩]⟩

/-- `inst[1:0]` = 10, `inst[15:13]` = 111: R4056 `c.fswsp` to R4057 `c.sdsp`. -/
def partCompressed24 : Part := ⟨0xe003#32, 0xe002#32, [
  ⟨.cFswsp, 16, 0xe003#32, 0xe002#32, x32, none, []⟩,
  ⟨.cSdsp, 16, 0xe003#32, 0xe002#32, x64x128, none, []⟩]⟩

/-- The parts of this file. -/
def partsCompressed : List Part :=
  [partCompressed1, partCompressed2, partCompressed3, partCompressed4, partCompressed5, partCompressed6,
   partCompressed7, partCompressed8, partCompressed9, partCompressed10, partCompressed11, partCompressed12,
   partCompressed13, partCompressed14, partCompressed15, partCompressed16, partCompressed17, partCompressed18,
   partCompressed19, partCompressed20, partCompressed21, partCompressed22, partCompressed23, partCompressed24]

end Sys2Proof
end

