-- ==== Sys2Proof/Machine/RowsFloat.lean ====
section
/-! DEFINITION. Machine/RowsFloat.lean: the rows of the scalar floating-point opcodes (42_float),
as spec/opcode_table.json lists them (30_encoding.md R110), in parts by the fields the trees discriminate on first (R104). -/

namespace Sys2Proof

/-- `inst[6:0]` = 0000111: R2000 `flh` to R2003 `flq`. -/
def partFloat1 : Part := ⟨0x0000007f#32, 0x00000007#32, [
  ⟨.flh, 32, 0x0000707f#32, 0x00001007#32, xAll, none, []⟩,
  ⟨.flw, 32, 0x0000707f#32, 0x00002007#32, xAll, none, []⟩,
  ⟨.fld, 32, 0x0000707f#32, 0x00003007#32, xAll, none, []⟩,
  ⟨.flq, 32, 0x0000707f#32, 0x00004007#32, xAll, none, []⟩]⟩

/-- `inst[6:0]` = 0100111: R2004 `fsh` to R2007 `fsq`. -/
def partFloat2 : Part := ⟨0x0000007f#32, 0x00000027#32, [
  ⟨.fsh, 32, 0x0000707f#32, 0x00001027#32, xAll, none, []⟩,
  ⟨.fsw, 32, 0x0000707f#32, 0x00002027#32, xAll, none, []⟩,
  ⟨.fsd, 32, 0x0000707f#32, 0x00003027#32, xAll, none, []⟩,
  ⟨.fsq, 32, 0x0000707f#32, 0x00004027#32, xAll, none, []⟩]⟩

/-- `inst[6:0]` = 1000011: R2008 `fmadd.s` to R2116 `fmadd.q`. -/
def partFloat3 : Part := ⟨0x0000007f#32, 0x00000043#32, [
  ⟨.fmaddS, 32, 0x0600007f#32, 0x00000043#32, xAll, none, []⟩,
  ⟨.fmaddD, 32, 0x0600007f#32, 0x02000043#32, xAll, none, []⟩,
  ⟨.fmaddH, 32, 0x0600007f#32, 0x04000043#32, xAll, none, []⟩,
  ⟨.fmaddQ, 32, 0x0600007f#32, 0x06000043#32, xAll, none, []⟩]⟩

/-- `inst[6:0]` = 1000111: R2009 `fmsub.s` to R2117 `fmsub.q`. -/
def partFloat4 : Part := ⟨0x0000007f#32, 0x00000047#32, [
  ⟨.fmsubS, 32, 0x0600007f#32, 0x00000047#32, xAll, none, []⟩,
  ⟨.fmsubD, 32, 0x0600007f#32, 0x02000047#32, xAll, none, []⟩,
  ⟨.fmsubH, 32, 0x0600007f#32, 0x04000047#32, xAll, none, []⟩,
  ⟨.fmsubQ, 32, 0x0600007f#32, 0x06000047#32, xAll, none, []⟩]⟩

/-- `inst[6:0]` = 1001011: R2010 `fnmsub.s` to R2118 `fnmsub.q`. -/
def partFloat5 : Part := ⟨0x0000007f#32, 0x0000004b#32, [
  ⟨.fnmsubS, 32, 0x0600007f#32, 0x0000004b#32, xAll, none, []⟩,
  ⟨.fnmsubD, 32, 0x0600007f#32, 0x0200004b#32, xAll, none, []⟩,
  ⟨.fnmsubH, 32, 0x0600007f#32, 0x0400004b#32, xAll, none, []⟩,
  ⟨.fnmsubQ, 32, 0x0600007f#32, 0x0600004b#32, xAll, none, []⟩]⟩

/-- `inst[6:0]` = 1001111: R2011 `fnmadd.s` to R2119 `fnmadd.q`. -/
def partFloat6 : Part := ⟨0x0000007f#32, 0x0000004f#32, [
  ⟨.fnmaddS, 32, 0x0600007f#32, 0x0000004f#32, xAll, none, []⟩,
  ⟨.fnmaddD, 32, 0x0600007f#32, 0x0200004f#32, xAll, none, []⟩,
  ⟨.fnmaddH, 32, 0x0600007f#32, 0x0400004f#32, xAll, none, []⟩,
  ⟨.fnmaddQ, 32, 0x0600007f#32, 0x0600004f#32, xAll, none, []⟩]⟩

/-- `inst[6:0]` = 1010011, `inst[26:25]` = 00: R2012 `fadd.s` to R2155 `fmv.w.x`. -/
def partFloat7 : Part := ⟨0x0600007f#32, 0x00000053#32, [
  ⟨.faddS, 32, 0xfe00007f#32, 0x00000053#32, xAll, none, []⟩,
  ⟨.fsubS, 32, 0xfe00007f#32, 0x08000053#32, xAll, none, []⟩,
  ⟨.fmulS, 32, 0xfe00007f#32, 0x10000053#32, xAll, none, []⟩,
  ⟨.fdivS, 32, 0xfe00007f#32, 0x18000053#32, xAll, none, []⟩,
  ⟨.fsqrtS, 32, 0xfff0007f#32, 0x58000053#32, xAll, none, []⟩,
  ⟨.fsgnjS, 32, 0xfe00707f#32, 0x20000053#32, xAll, none, []⟩,
  ⟨.fsgnjnS, 32, 0xfe00707f#32, 0x20001053#32, xAll, none, []⟩,
  ⟨.fsgnjxS, 32, 0xfe00707f#32, 0x20002053#32, xAll, none, []⟩,
  ⟨.fminS, 32, 0xfe00707f#32, 0x28000053#32, xAll, none, []⟩,
  ⟨.fmaxS, 32, 0xfe00707f#32, 0x28001053#32, xAll, none, []⟩,
  ⟨.fcvtSD, 32, 0xfff0007f#32, 0x40100053#32, xAll, none, []⟩,
  ⟨.fcvtSH, 32, 0xfff0007f#32, 0x40200053#32, xAll, none, []⟩,
  ⟨.fcvtSQ, 32, 0xfff0007f#32, 0x40300053#32, xAll, none, []⟩,
  ⟨.feqS, 32, 0xfe00707f#32, 0xa0002053#32, xAll, none, []⟩,
  ⟨.fltS, 32, 0xfe00707f#32, 0xa0001053#32, xAll, none, []⟩,
  ⟨.fleS, 32, 0xfe00707f#32, 0xa0000053#32, xAll, none, []⟩,
  ⟨.fclassS, 32, 0xfff0707f#32, 0xe0001053#32, xAll, none, []⟩,
  ⟨.fcvtWS, 32, 0xfff0007f#32, 0xc0000053#32, xAll, none, []⟩,
  ⟨.fcvtSW, 32, 0xfff0007f#32, 0xd0000053#32, xAll, none, []⟩,
  ⟨.fcvtWuS, 32, 0xfff0007f#32, 0xc0100053#32, xAll, none, []⟩,
  ⟨.fcvtSWu, 32, 0xfff0007f#32, 0xd0100053#32, xAll, none, []⟩,
  ⟨.fcvtLS, 32, 0xfff0007f#32, 0xc0200053#32, x64x128, none, []⟩,
  ⟨.fcvtSL, 32, 0xfff0007f#32, 0xd0200053#32, x64x128, none, []⟩,
  ⟨.fcvtLuS, 32, 0xfff0007f#32, 0xc0300053#32, x64x128, none, []⟩,
  ⟨.fcvtSLu, 32, 0xfff0007f#32, 0xd0300053#32, x64x128, none, []⟩,
  ⟨.fliS, 32, 0xfff0707f#32, 0xf0100053#32, xAll, none, []⟩,
  ⟨.fminmS, 32, 0xfe00707f#32, 0x28002053#32, xAll, none, []⟩,
  ⟨.fmaxmS, 32, 0xfe00707f#32, 0x28003053#32, xAll, none, []⟩,
  ⟨.froundS, 32, 0xfff0007f#32, 0x40400053#32, xAll, none, []⟩,
  ⟨.froundnxS, 32, 0xfff0007f#32, 0x40500053#32, xAll, none, []⟩,
  ⟨.fleqS, 32, 0xfe00707f#32, 0xa0004053#32, xAll, none, []⟩,
  ⟨.fltqS, 32, 0xfe00707f#32, 0xa0005053#32, xAll, none, []⟩,
  ⟨.fmvXW, 32, 0xfff0707f#32, 0xe0000053#32, xAll, none, []⟩,
  ⟨.fmvWX, 32, 0xfff0707f#32, 0xf0000053#32, xAll, none, []⟩]⟩

/-- `inst[6:0]` = 1010011, `inst[26:25]` = 01: R2048 `fadd.d` to R2160 `fmvp.d.x`. -/
def partFloat8 : Part := ⟨0x0600007f#32, 0x02000053#32, [
  ⟨.faddD, 32, 0xfe00007f#32, 0x02000053#32, xAll, none, []⟩,
  ⟨.fsubD, 32, 0xfe00007f#32, 0x0a000053#32, xAll, none, []⟩,
  ⟨.fmulD, 32, 0xfe00007f#32, 0x12000053#32, xAll, none, []⟩,
  ⟨.fdivD, 32, 0xfe00007f#32, 0x1a000053#32, xAll, none, []⟩,
  ⟨.fsqrtD, 32, 0xfff0007f#32, 0x5a000053#32, xAll, none, []⟩,
  ⟨.fsgnjD, 32, 0xfe00707f#32, 0x22000053#32, xAll, none, []⟩,
  ⟨.fsgnjnD, 32, 0xfe00707f#32, 0x22001053#32, xAll, none, []⟩,
  ⟨.fsgnjxD, 32, 0xfe00707f#32, 0x22002053#32, xAll, none, []⟩,
  ⟨.fminD, 32, 0xfe00707f#32, 0x2a000053#32, xAll, none, []⟩,
  ⟨.fmaxD, 32, 0xfe00707f#32, 0x2a001053#32, xAll, none, []⟩,
  ⟨.fcvtDS, 32, 0xfff0007f#32, 0x42000053#32, xAll, none, []⟩,
  ⟨.fcvtDH, 32, 0xfff0007f#32, 0x42200053#32, xAll, none, []⟩,
  ⟨.fcvtDQ, 32, 0xfff0007f#32, 0x42300053#32, xAll, none, []⟩,
  ⟨.feqD, 32, 0xfe00707f#32, 0xa2002053#32, xAll, none, []⟩,
  ⟨.fltD, 32, 0xfe00707f#32, 0xa2001053#32, xAll, none, []⟩,
  ⟨.fleD, 32, 0xfe00707f#32, 0xa2000053#32, xAll, none, []⟩,
  ⟨.fclassD, 32, 0xfff0707f#32, 0xe2001053#32, xAll, none, []⟩,
  ⟨.fcvtWD, 32, 0xfff0007f#32, 0xc2000053#32, xAll, none, []⟩,
  ⟨.fcvtDW, 32, 0xfff0007f#32, 0xd2000053#32, xAll, none, []⟩,
  ⟨.fcvtWuD, 32, 0xfff0007f#32, 0xc2100053#32, xAll, none, []⟩,
  ⟨.fcvtDWu, 32, 0xfff0007f#32, 0xd2100053#32, xAll, none, []⟩,
  ⟨.fcvtLD, 32, 0xfff0007f#32, 0xc2200053#32, x64x128, none, []⟩,
  ⟨.fcvtDL, 32, 0xfff0007f#32, 0xd2200053#32, x64x128, none, []⟩,
  ⟨.fcvtLuD, 32, 0xfff0007f#32, 0xc2300053#32, x64x128, none, []⟩,
  ⟨.fcvtDLu, 32, 0xfff0007f#32, 0xd2300053#32, x64x128, none, []⟩,
  ⟨.fliD, 32, 0xfff0707f#32, 0xf2100053#32, xAll, none, []⟩,
  ⟨.fminmD, 32, 0xfe00707f#32, 0x2a002053#32, xAll, none, []⟩,
  ⟨.fmaxmD, 32, 0xfe00707f#32, 0x2a003053#32, xAll, none, []⟩,
  ⟨.froundD, 32, 0xfff0007f#32, 0x42400053#32, xAll, none, []⟩,
  ⟨.froundnxD, 32, 0xfff0007f#32, 0x42500053#32, xAll, none, []⟩,
  ⟨.fleqD, 32, 0xfe00707f#32, 0xa2004053#32, xAll, none, []⟩,
  ⟨.fltqD, 32, 0xfe00707f#32, 0xa2005053#32, xAll, none, []⟩,
  ⟨.fmvXD, 32, 0xfff0707f#32, 0xe2000053#32, x64x128, none, []⟩,
  ⟨.fmvDX, 32, 0xfff0707f#32, 0xf2000053#32, x64x128, none, []⟩,
  ⟨.fcvtmodWD, 32, 0xfff0707f#32, 0xc2801053#32, xAll, none, []⟩,
  ⟨.fmvhXD, 32, 0xfff0707f#32, 0xe2100053#32, x32, none, []⟩,
  ⟨.fmvpDX, 32, 0xfe00707f#32, 0xb2000053#32, x32, none, []⟩]⟩

/-- `inst[6:0]` = 1010011, `inst[26:25]` = 10: R2084 `fadd.h` to R2157 `fmv.h.x`. -/
def partFloat9 : Part := ⟨0x0600007f#32, 0x04000053#32, [
  ⟨.faddH, 32, 0xfe00007f#32, 0x04000053#32, xAll, none, []⟩,
  ⟨.fsubH, 32, 0xfe00007f#32, 0x0c000053#32, xAll, none, []⟩,
  ⟨.fmulH, 32, 0xfe00007f#32, 0x14000053#32, xAll, none, []⟩,
  ⟨.fdivH, 32, 0xfe00007f#32, 0x1c000053#32, xAll, none, []⟩,
  ⟨.fsqrtH, 32, 0xfff0007f#32, 0x5c000053#32, xAll, none, []⟩,
  ⟨.fsgnjH, 32, 0xfe00707f#32, 0x24000053#32, xAll, none, []⟩,
  ⟨.fsgnjnH, 32, 0xfe00707f#32, 0x24001053#32, xAll, none, []⟩,
  ⟨.fsgnjxH, 32, 0xfe00707f#32, 0x24002053#32, xAll, none, []⟩,
  ⟨.fminH, 32, 0xfe00707f#32, 0x2c000053#32, xAll, none, []⟩,
  ⟨.fmaxH, 32, 0xfe00707f#32, 0x2c001053#32, xAll, none, []⟩,
  ⟨.fcvtHS, 32, 0xfff0007f#32, 0x44000053#32, xAll, none, []⟩,
  ⟨.fcvtHD, 32, 0xfff0007f#32, 0x44100053#32, xAll, none, []⟩,
  ⟨.fcvtHQ, 32, 0xfff0007f#32, 0x44300053#32, xAll, none, []⟩,
  ⟨.feqH, 32, 0xfe00707f#32, 0xa4002053#32, xAll, none, []⟩,
  ⟨.fltH, 32, 0xfe00707f#32, 0xa4001053#32, xAll, none, []⟩,
  ⟨.fleH, 32, 0xfe00707f#32, 0xa4000053#32, xAll, none, []⟩,
  ⟨.fclassH, 32, 0xfff0707f#32, 0xe4001053#32, xAll, none, []⟩,
  ⟨.fcvtWH, 32, 0xfff0007f#32, 0xc4000053#32, xAll, none, []⟩,
  ⟨.fcvtHW, 32, 0xfff0007f#32, 0xd4000053#32, xAll, none, []⟩,
  ⟨.fcvtWuH, 32, 0xfff0007f#32, 0xc4100053#32, xAll, none, []⟩,
  ⟨.fcvtHWu, 32, 0xfff0007f#32, 0xd4100053#32, xAll, none, []⟩,
  ⟨.fcvtLH, 32, 0xfff0007f#32, 0xc4200053#32, x64x128, none, []⟩,
  ⟨.fcvtHL, 32, 0xfff0007f#32, 0xd4200053#32, x64x128, none, []⟩,
  ⟨.fcvtLuH, 32, 0xfff0007f#32, 0xc4300053#32, x64x128, none, []⟩,
  ⟨.fcvtHLu, 32, 0xfff0007f#32, 0xd4300053#32, x64x128, none, []⟩,
  ⟨.fliH, 32, 0xfff0707f#32, 0xf4100053#32, xAll, none, []⟩,
  ⟨.fminmH, 32, 0xfe00707f#32, 0x2c002053#32, xAll, none, []⟩,
  ⟨.fmaxmH, 32, 0xfe00707f#32, 0x2c003053#32, xAll, none, []⟩,
  ⟨.froundH, 32, 0xfff0007f#32, 0x44400053#32, xAll, none, []⟩,
  ⟨.froundnxH, 32, 0xfff0007f#32, 0x44500053#32, xAll, none, []⟩,
  ⟨.fleqH, 32, 0xfe00707f#32, 0xa4004053#32, xAll, none, []⟩,
  ⟨.fltqH, 32, 0xfe00707f#32, 0xa4005053#32, xAll, none, []⟩,
  ⟨.fmvXH, 32, 0xfff0707f#32, 0xe4000053#32, xAll, none, []⟩,
  ⟨.fmvHX, 32, 0xfff0707f#32, 0xf4000053#32, xAll, none, []⟩]⟩

/-- `inst[6:0]` = 1010011, `inst[26:25]` = 11: R2120 `fadd.q` to R2162 `fmvp.q.x`. -/
def partFloat10 : Part := ⟨0x0600007f#32, 0x06000053#32, [
  ⟨.faddQ, 32, 0xfe00007f#32, 0x06000053#32, xAll, none, []⟩,
  ⟨.fsubQ, 32, 0xfe00007f#32, 0x0e000053#32, xAll, none, []⟩,
  ⟨.fmulQ, 32, 0xfe00007f#32, 0x16000053#32, xAll, none, []⟩,
  ⟨.fdivQ, 32, 0xfe00007f#32, 0x1e000053#32, xAll, none, []⟩,
  ⟨.fsqrtQ, 32, 0xfff0007f#32, 0x5e000053#32, xAll, none, []⟩,
  ⟨.fsgnjQ, 32, 0xfe00707f#32, 0x26000053#32, xAll, none, []⟩,
  ⟨.fsgnjnQ, 32, 0xfe00707f#32, 0x26001053#32, xAll, none, []⟩,
  ⟨.fsgnjxQ, 32, 0xfe00707f#32, 0x26002053#32, xAll, none, []⟩,
  ⟨.fminQ, 32, 0xfe00707f#32, 0x2e000053#32, xAll, none, []⟩,
  ⟨.fmaxQ, 32, 0xfe00707f#32, 0x2e001053#32, xAll, none, []⟩,
  ⟨.fcvtQS, 32, 0xfff0007f#32, 0x46000053#32, xAll, none, []⟩,
  ⟨.fcvtQD, 32, 0xfff0007f#32, 0x46100053#32, xAll, none, []⟩,
  ⟨.fcvtQH, 32, 0xfff0007f#32, 0x46200053#32, xAll, none, []⟩,
  ⟨.feqQ, 32, 0xfe00707f#32, 0xa6002053#32, xAll, none, []⟩,
  ⟨.fltQ, 32, 0xfe00707f#32, 0xa6001053#32, xAll, none, []⟩,
  ⟨.fleQ, 32, 0xfe00707f#32, 0xa6000053#32, xAll, none, []⟩,
  ⟨.fclassQ, 32, 0xfff0707f#32, 0xe6001053#32, xAll, none, []⟩,
  ⟨.fcvtWQ, 32, 0xfff0007f#32, 0xc6000053#32, xAll, none, []⟩,
  ⟨.fcvtQW, 32, 0xfff0007f#32, 0xd6000053#32, xAll, none, []⟩,
  ⟨.fcvtWuQ, 32, 0xfff0007f#32, 0xc6100053#32, xAll, none, []⟩,
  ⟨.fcvtQWu, 32, 0xfff0007f#32, 0xd6100053#32, xAll, none, []⟩,
  ⟨.fcvtLQ, 32, 0xfff0007f#32, 0xc6200053#32, x64x128, none, []⟩,
  ⟨.fcvtQL, 32, 0xfff0007f#32, 0xd6200053#32, x64x128, none, []⟩,
  ⟨.fcvtLuQ, 32, 0xfff0007f#32, 0xc6300053#32, x64x128, none, []⟩,
  ⟨.fcvtQLu, 32, 0xfff0007f#32, 0xd6300053#32, x64x128, none, []⟩,
  ⟨.fliQ, 32, 0xfff0707f#32, 0xf6100053#32, xAll, none, []⟩,
  ⟨.fminmQ, 32, 0xfe00707f#32, 0x2e002053#32, xAll, none, []⟩,
  ⟨.fmaxmQ, 32, 0xfe00707f#32, 0x2e003053#32, xAll, none, []⟩,
  ⟨.froundQ, 32, 0xfff0007f#32, 0x46400053#32, xAll, none, []⟩,
  ⟨.froundnxQ, 32, 0xfff0007f#32, 0x46500053#32, xAll, none, []⟩,
  ⟨.fleqQ, 32, 0xfe00707f#32, 0xa6004053#32, xAll, none, []⟩,
  ⟨.fltqQ, 32, 0xfe00707f#32, 0xa6005053#32, xAll, none, []⟩,
  ⟨.fmvhXQ, 32, 0xfff0707f#32, 0xe6100053#32, x64, none, []⟩,
  ⟨.fmvpQX, 32, 0xfe00707f#32, 0xb6000053#32, x64, none, []⟩]⟩

/-- The parts of this file. -/
def partsFloat : List Part :=
  [partFloat1, partFloat2, partFloat3, partFloat4, partFloat5, partFloat6, partFloat7, partFloat8, partFloat9,
   partFloat10]

end Sys2Proof
end

