-- ==== Sys2Proof/Machine/RowsInteger.lean ====
section
/-! DEFINITION. Machine/RowsInteger.lean: the rows of the base integer, M, A, Zicsr, Zifencei, privileged, H and
cache-block opcodes (41_base_integer),
as spec/opcode_table.json lists them (30_encoding.md R110), in parts by the fields the trees discriminate on first (R104). -/

namespace Sys2Proof

/-- `inst[6:0]` = 0110111: R1000 `lui`. -/
def partInteger1 : Part := ⟨0x0000007f#32, 0x00000037#32, [
  ⟨.lui, 32, 0x0000007f#32, 0x00000037#32, xAll, none, []⟩]⟩

/-- `inst[6:0]` = 0010111: R1001 `auipc`. -/
def partInteger2 : Part := ⟨0x0000007f#32, 0x00000017#32, [
  ⟨.auipc, 32, 0x0000007f#32, 0x00000017#32, xAll, none, []⟩]⟩

/-- `inst[6:0]` = 1101111: R1002 `jal`. -/
def partInteger3 : Part := ⟨0x0000007f#32, 0x0000006f#32, [
  ⟨.jal, 32, 0x0000007f#32, 0x0000006f#32, xAll, none, []⟩]⟩

/-- `inst[6:0]` = 1100111: R1003 `jalr`. -/
def partInteger4 : Part := ⟨0x0000007f#32, 0x00000067#32, [
  ⟨.jalr, 32, 0x0000707f#32, 0x00000067#32, xAll, none, []⟩]⟩

/-- `inst[6:0]` = 1100011: R1004 `beq` to R1009 `bgeu`. -/
def partInteger5 : Part := ⟨0x0000007f#32, 0x00000063#32, [
  ⟨.beq, 32, 0x0000707f#32, 0x00000063#32, xAll, none, []⟩,
  ⟨.bne, 32, 0x0000707f#32, 0x00001063#32, xAll, none, []⟩,
  ⟨.blt, 32, 0x0000707f#32, 0x00004063#32, xAll, none, []⟩,
  ⟨.bge, 32, 0x0000707f#32, 0x00005063#32, xAll, none, []⟩,
  ⟨.bltu, 32, 0x0000707f#32, 0x00006063#32, xAll, none, []⟩,
  ⟨.bgeu, 32, 0x0000707f#32, 0x00007063#32, xAll, none, []⟩]⟩

/-- `inst[6:0]` = 0000011: R1010 `lb` to R1017 `ldu`. -/
def partInteger6 : Part := ⟨0x0000007f#32, 0x00000003#32, [
  ⟨.lb, 32, 0x0000707f#32, 0x00000003#32, xAll, none, []⟩,
  ⟨.lh, 32, 0x0000707f#32, 0x00001003#32, xAll, none, []⟩,
  ⟨.lw, 32, 0x0000707f#32, 0x00002003#32, xAll, none, []⟩,
  ⟨.ld, 32, 0x0000707f#32, 0x00003003#32, x64x128, none, []⟩,
  ⟨.lbu, 32, 0x0000707f#32, 0x00004003#32, xAll, none, []⟩,
  ⟨.lhu, 32, 0x0000707f#32, 0x00005003#32, xAll, none, []⟩,
  ⟨.lwu, 32, 0x0000707f#32, 0x00006003#32, x64x128, none, []⟩,
  ⟨.ldu, 32, 0x0000707f#32, 0x00007003#32, x128, none, []⟩]⟩

/-- `inst[6:0]` = 0100011: R1018 `sb` to R1022 `sq`. -/
def partInteger7 : Part := ⟨0x0000007f#32, 0x00000023#32, [
  ⟨.sb, 32, 0x0000707f#32, 0x00000023#32, xAll, none, []⟩,
  ⟨.sh, 32, 0x0000707f#32, 0x00001023#32, xAll, none, []⟩,
  ⟨.sw, 32, 0x0000707f#32, 0x00002023#32, xAll, none, []⟩,
  ⟨.sd, 32, 0x0000707f#32, 0x00003023#32, x64x128, none, []⟩,
  ⟨.sq, 32, 0x0000707f#32, 0x00004023#32, x128, none, []⟩]⟩

/-- `inst[6:0]` = 0010011: R1023 `addi` to R1031 `srai`. -/
def partInteger8 : Part := ⟨0x0000007f#32, 0x00000013#32, [
  ⟨.addi, 32, 0x0000707f#32, 0x00000013#32, xAll, none, []⟩,
  ⟨.slti, 32, 0x0000707f#32, 0x00002013#32, xAll, none, []⟩,
  ⟨.sltiu, 32, 0x0000707f#32, 0x00003013#32, xAll, none, []⟩,
  ⟨.xori, 32, 0x0000707f#32, 0x00004013#32, xAll, none, []⟩,
  ⟨.ori, 32, 0x0000707f#32, 0x00006013#32, xAll, none, []⟩,
  ⟨.andi, 32, 0x0000707f#32, 0x00007013#32, xAll, none, []⟩,
  ⟨.slli, 32, 0xfe00707f#32, 0x00001013#32, x32, none, []⟩,
  ⟨.slli, 32, 0xfc00707f#32, 0x00001013#32, x64, none, []⟩,
  ⟨.slli, 32, 0xf800707f#32, 0x00001013#32, x128, none, []⟩,
  ⟨.srli, 32, 0xfe00707f#32, 0x00005013#32, x32, none, []⟩,
  ⟨.srli, 32, 0xfc00707f#32, 0x00005013#32, x64, none, []⟩,
  ⟨.srli, 32, 0xf800707f#32, 0x00005013#32, x128, none, []⟩,
  ⟨.srai, 32, 0xfe00707f#32, 0x40005013#32, x32, none, []⟩,
  ⟨.srai, 32, 0xfc00707f#32, 0x40005013#32, x64, none, []⟩,
  ⟨.srai, 32, 0xf800707f#32, 0x40005013#32, x128, none, []⟩]⟩

/-- `inst[6:0]` = 0110011: R1032 `add` to R1072 `remu`. -/
def partInteger9 : Part := ⟨0x0000007f#32, 0x00000033#32, [
  ⟨.add, 32, 0xfe00707f#32, 0x00000033#32, xAll, none, []⟩,
  ⟨.sub, 32, 0xfe00707f#32, 0x40000033#32, xAll, none, []⟩,
  ⟨.sll, 32, 0xfe00707f#32, 0x00001033#32, xAll, none, []⟩,
  ⟨.slt, 32, 0xfe00707f#32, 0x00002033#32, xAll, none, []⟩,
  ⟨.sltu, 32, 0xfe00707f#32, 0x00003033#32, xAll, none, []⟩,
  ⟨.xor, 32, 0xfe00707f#32, 0x00004033#32, xAll, none, []⟩,
  ⟨.srl, 32, 0xfe00707f#32, 0x00005033#32, xAll, none, []⟩,
  ⟨.sra, 32, 0xfe00707f#32, 0x40005033#32, xAll, none, []⟩,
  ⟨.or, 32, 0xfe00707f#32, 0x00006033#32, xAll, none, []⟩,
  ⟨.and, 32, 0xfe00707f#32, 0x00007033#32, xAll, none, []⟩,
  ⟨.mul, 32, 0xfe00707f#32, 0x02000033#32, xAll, none, []⟩,
  ⟨.mulh, 32, 0xfe00707f#32, 0x02001033#32, xAll, none, []⟩,
  ⟨.mulhsu, 32, 0xfe00707f#32, 0x02002033#32, xAll, none, []⟩,
  ⟨.mulhu, 32, 0xfe00707f#32, 0x02003033#32, xAll, none, []⟩,
  ⟨.div, 32, 0xfe00707f#32, 0x02004033#32, xAll, none, []⟩,
  ⟨.divu, 32, 0xfe00707f#32, 0x02005033#32, xAll, none, []⟩,
  ⟨.rem, 32, 0xfe00707f#32, 0x02006033#32, xAll, none, []⟩,
  ⟨.remu, 32, 0xfe00707f#32, 0x02007033#32, xAll, none, []⟩]⟩

/-- `inst[6:0]` = 0001111: R1042 `fence` to R1151 `cbo.zero`. -/
def partInteger10 : Part := ⟨0x0000007f#32, 0x0000000f#32, [
  ⟨.fence, 32, 0x0000707f#32, 0x0000000f#32, xAll, none, []⟩,
  ⟨.fenceI, 32, 0x0000707f#32, 0x0000100f#32, xAll, none, []⟩,
  ⟨.lq, 32, 0x0000707f#32, 0x0000200f#32, x128, none, []⟩,
  ⟨.cboInval, 32, 0xfff07fff#32, 0x0000200f#32, x32x64, none, []⟩,
  ⟨.cboClean, 32, 0xfff07fff#32, 0x0010200f#32, x32x64, none, []⟩,
  ⟨.cboFlush, 32, 0xfff07fff#32, 0x0020200f#32, x32x64, none, []⟩,
  ⟨.cboZero, 32, 0xfff07fff#32, 0x0040200f#32, x32x64, none, []⟩]⟩

/-- `inst[6:0]` = 1110011: R1044 `ecall` to R1147 `hsv.d`. -/
def partInteger11 : Part := ⟨0x0000007f#32, 0x00000073#32, [
  ⟨.ecall, 32, 0xffffffff#32, 0x00000073#32, xAll, none, []⟩,
  ⟨.ebreak, 32, 0xffffffff#32, 0x00100073#32, xAll, none, []⟩,
  ⟨.csrrw, 32, 0x0000707f#32, 0x00001073#32, xAll, none, []⟩,
  ⟨.csrrs, 32, 0x0000707f#32, 0x00002073#32, xAll, none, []⟩,
  ⟨.csrrc, 32, 0x0000707f#32, 0x00003073#32, xAll, none, []⟩,
  ⟨.csrrwi, 32, 0x0000707f#32, 0x00005073#32, xAll, none, []⟩,
  ⟨.csrrsi, 32, 0x0000707f#32, 0x00006073#32, xAll, none, []⟩,
  ⟨.csrrci, 32, 0x0000707f#32, 0x00007073#32, xAll, none, []⟩,
  ⟨.uret, 32, 0xffffffff#32, 0x00200073#32, xAll, none, []⟩,
  ⟨.sret, 32, 0xffffffff#32, 0x10200073#32, xAll, none, []⟩,
  ⟨.mret, 32, 0xffffffff#32, 0x30200073#32, xAll, none, []⟩,
  ⟨.dret, 32, 0xffffffff#32, 0x7b200073#32, xAll, none, []⟩,
  ⟨.wfi, 32, 0xffffffff#32, 0x10500073#32, xAll, none, []⟩,
  ⟨.sfenceWInval, 32, 0xffffffff#32, 0x18000073#32, xAll, none, []⟩,
  ⟨.sfenceInvalIr, 32, 0xffffffff#32, 0x18100073#32, xAll, none, []⟩,
  ⟨.sfenceVma, 32, 0xfe007fff#32, 0x12000073#32, xAll, none, []⟩,
  ⟨.sinvalVma, 32, 0xfe007fff#32, 0x16000073#32, xAll, none, []⟩,
  ⟨.hfenceVvma, 32, 0xfe007fff#32, 0x22000073#32, xAll, none, []⟩,
  ⟨.hfenceGvma, 32, 0xfe007fff#32, 0x62000073#32, xAll, none, []⟩,
  ⟨.hinvalVvma, 32, 0xfe007fff#32, 0x26000073#32, xAll, none, []⟩,
  ⟨.hinvalGvma, 32, 0xfe007fff#32, 0x66000073#32, xAll, none, []⟩,
  ⟨.hlvB, 32, 0xfff0707f#32, 0x60004073#32, xAll, none, []⟩,
  ⟨.hlvBu, 32, 0xfff0707f#32, 0x60104073#32, xAll, none, []⟩,
  ⟨.hlvH, 32, 0xfff0707f#32, 0x64004073#32, xAll, none, []⟩,
  ⟨.hlvHu, 32, 0xfff0707f#32, 0x64104073#32, xAll, none, []⟩,
  ⟨.hlvxHu, 32, 0xfff0707f#32, 0x64304073#32, xAll, none, []⟩,
  ⟨.hlvW, 32, 0xfff0707f#32, 0x68004073#32, xAll, none, []⟩,
  ⟨.hlvxWu, 32, 0xfff0707f#32, 0x68304073#32, xAll, none, []⟩,
  ⟨.hlvWu, 32, 0xfff0707f#32, 0x68104073#32, x64x128, none, []⟩,
  ⟨.hlvD, 32, 0xfff0707f#32, 0x6c004073#32, x64x128, none, []⟩,
  ⟨.hsvB, 32, 0xfe007fff#32, 0x62004073#32, xAll, none, []⟩,
  ⟨.hsvH, 32, 0xfe007fff#32, 0x66004073#32, xAll, none, []⟩,
  ⟨.hsvW, 32, 0xfe007fff#32, 0x6a004073#32, xAll, none, []⟩,
  ⟨.hsvD, 32, 0xfe007fff#32, 0x6e004073#32, x64x128, none, []⟩]⟩

/-- `inst[6:0]` = 0011011: R1046 `addiw` to R1049 `sraiw`. -/
def partInteger12 : Part := ⟨0x0000007f#32, 0x0000001b#32, [
  ⟨.addiw, 32, 0x0000707f#32, 0x0000001b#32, x64x128, none, []⟩,
  ⟨.slliw, 32, 0xfe00707f#32, 0x0000101b#32, x64x128, none, []⟩,
  ⟨.srliw, 32, 0xfe00707f#32, 0x0000501b#32, x64x128, none, []⟩,
  ⟨.sraiw, 32, 0xfe00707f#32, 0x4000501b#32, x64x128, none, []⟩]⟩

/-- `inst[6:0]` = 0111011: R1050 `addw` to R1077 `remuw`. -/
def partInteger13 : Part := ⟨0x0000007f#32, 0x0000003b#32, [
  ⟨.addw, 32, 0xfe00707f#32, 0x0000003b#32, x64x128, none, []⟩,
  ⟨.subw, 32, 0xfe00707f#32, 0x4000003b#32, x64x128, none, []⟩,
  ⟨.sllw, 32, 0xfe00707f#32, 0x0000103b#32, x64x128, none, []⟩,
  ⟨.srlw, 32, 0xfe00707f#32, 0x0000503b#32, x64x128, none, []⟩,
  ⟨.sraw, 32, 0xfe00707f#32, 0x4000503b#32, x64x128, none, []⟩,
  ⟨.mulw, 32, 0xfe00707f#32, 0x0200003b#32, x64x128, none, []⟩,
  ⟨.divw, 32, 0xfe00707f#32, 0x0200403b#32, x64x128, none, []⟩,
  ⟨.divuw, 32, 0xfe00707f#32, 0x0200503b#32, x64x128, none, []⟩,
  ⟨.remw, 32, 0xfe00707f#32, 0x0200603b#32, x64x128, none, []⟩,
  ⟨.remuw, 32, 0xfe00707f#32, 0x0200703b#32, x64x128, none, []⟩]⟩

/-- `inst[6:0]` = 1011011: R1056 `addid` to R1059 `sraid`. -/
def partInteger14 : Part := ⟨0x0000007f#32, 0x0000005b#32, [
  ⟨.addid, 32, 0x0000707f#32, 0x0000005b#32, x128, none, []⟩,
  ⟨.sllid, 32, 0xfc00707f#32, 0x0000105b#32, x128, none, []⟩,
  ⟨.srlid, 32, 0xfc00707f#32, 0x0000505b#32, x128, none, []⟩,
  ⟨.sraid, 32, 0xfc00707f#32, 0x4000505b#32, x128, none, []⟩]⟩

/-- `inst[6:0]` = 1111011: R1060 `addd` to R1082 `remud`. -/
def partInteger15 : Part := ⟨0x0000007f#32, 0x0000007b#32, [
  ⟨.addd, 32, 0xfe00707f#32, 0x0000007b#32, x128, none, []⟩,
  ⟨.subd, 32, 0xfe00707f#32, 0x4000007b#32, x128, none, []⟩,
  ⟨.slld, 32, 0xfe00707f#32, 0x0000107b#32, x128, none, []⟩,
  ⟨.srld, 32, 0xfe00707f#32, 0x0000507b#32, x128, none, []⟩,
  ⟨.srad, 32, 0xfe00707f#32, 0x4000507b#32, x128, none, []⟩,
  ⟨.muld, 32, 0xfe00707f#32, 0x0200007b#32, x128, none, []⟩,
  ⟨.divd, 32, 0xfe00707f#32, 0x0200407b#32, x128, none, []⟩,
  ⟨.divud, 32, 0xfe00707f#32, 0x0200507b#32, x128, none, []⟩,
  ⟨.remd, 32, 0xfe00707f#32, 0x0200607b#32, x128, none, []⟩,
  ⟨.remud, 32, 0xfe00707f#32, 0x0200707b#32, x128, none, []⟩]⟩

/-- `inst[6:0]` = 0101111: R1083 `lr.w` to R1115 `amomaxu.q`. -/
def partInteger16 : Part := ⟨0x0000007f#32, 0x0000002f#32, [
  ⟨.lrW, 32, 0xf9f0707f#32, 0x1000202f#32, xAll, none, []⟩,
  ⟨.scW, 32, 0xf800707f#32, 0x1800202f#32, xAll, none, []⟩,
  ⟨.amoaddW, 32, 0xf800707f#32, 0x0000202f#32, xAll, none, []⟩,
  ⟨.amoswapW, 32, 0xf800707f#32, 0x0800202f#32, xAll, none, []⟩,
  ⟨.amoxorW, 32, 0xf800707f#32, 0x2000202f#32, xAll, none, []⟩,
  ⟨.amoorW, 32, 0xf800707f#32, 0x4000202f#32, xAll, none, []⟩,
  ⟨.amoandW, 32, 0xf800707f#32, 0x6000202f#32, xAll, none, []⟩,
  ⟨.amominW, 32, 0xf800707f#32, 0x8000202f#32, xAll, none, []⟩,
  ⟨.amomaxW, 32, 0xf800707f#32, 0xa000202f#32, xAll, none, []⟩,
  ⟨.amominuW, 32, 0xf800707f#32, 0xc000202f#32, xAll, none, []⟩,
  ⟨.amomaxuW, 32, 0xf800707f#32, 0xe000202f#32, xAll, none, []⟩,
  ⟨.lrD, 32, 0xf9f0707f#32, 0x1000302f#32, x64x128, none, []⟩,
  ⟨.scD, 32, 0xf800707f#32, 0x1800302f#32, x64x128, none, []⟩,
  ⟨.amoaddD, 32, 0xf800707f#32, 0x0000302f#32, x64x128, none, []⟩,
  ⟨.amoswapD, 32, 0xf800707f#32, 0x0800302f#32, x64x128, none, []⟩,
  ⟨.amoxorD, 32, 0xf800707f#32, 0x2000302f#32, x64x128, none, []⟩,
  ⟨.amoorD, 32, 0xf800707f#32, 0x4000302f#32, x64x128, none, []⟩,
  ⟨.amoandD, 32, 0xf800707f#32, 0x6000302f#32, x64x128, none, []⟩,
  ⟨.amominD, 32, 0xf800707f#32, 0x8000302f#32, x64x128, none, []⟩,
  ⟨.amomaxD, 32, 0xf800707f#32, 0xa000302f#32, x64x128, none, []⟩,
  ⟨.amominuD, 32, 0xf800707f#32, 0xc000302f#32, x64x128, none, []⟩,
  ⟨.amomaxuD, 32, 0xf800707f#32, 0xe000302f#32, x64x128, none, []⟩,
  ⟨.lrQ, 32, 0xf9f0707f#32, 0x1000402f#32, x128, none, []⟩,
  ⟨.scQ, 32, 0xf800707f#32, 0x1800402f#32, x128, none, []⟩,
  ⟨.amoaddQ, 32, 0xf800707f#32, 0x0000402f#32, x128, none, []⟩,
  ⟨.amoswapQ, 32, 0xf800707f#32, 0x0800402f#32, x128, none, []⟩,
  ⟨.amoxorQ, 32, 0xf800707f#32, 0x2000402f#32, x128, none, []⟩,
  ⟨.amoorQ, 32, 0xf800707f#32, 0x4000402f#32, x128, none, []⟩,
  ⟨.amoandQ, 32, 0xf800707f#32, 0x6000402f#32, x128, none, []⟩,
  ⟨.amominQ, 32, 0xf800707f#32, 0x8000402f#32, x128, none, []⟩,
  ⟨.amomaxQ, 32, 0xf800707f#32, 0xa000402f#32, x128, none, []⟩,
  ⟨.amominuQ, 32, 0xf800707f#32, 0xc000402f#32, x128, none, []⟩,
  ⟨.amomaxuQ, 32, 0xf800707f#32, 0xe000402f#32, x128, none, []⟩]⟩

/-- The parts of this file. -/
def partsInteger : List Part :=
  [partInteger1, partInteger2, partInteger3, partInteger4, partInteger5, partInteger6, partInteger7, partInteger8,
   partInteger9, partInteger10, partInteger11, partInteger12, partInteger13, partInteger14, partInteger15,
   partInteger16]

end Sys2Proof
end

