-- ==== Sys2Proof/Machine/RowsVectorArith.lean ====
section
/-! DEFINITION. Machine/RowsVectorArith.lean: the rows of the vector configuration and arithmetic opcodes
(45_vector_arith),
as spec/opcode_table.json lists them (30_encoding.md R110), in parts by the fields the trees discriminate on first (R104). -/

namespace Sys2Proof

/-- `inst[6:0]` = 1010111, `inst[14:12]` = 111: R5000 `vsetvli` to R5002 `vsetvl`. -/
def partVectorArith1 : Part := ⟨0x0000707f#32, 0x00007057#32, [
  ⟨.vsetvli, 32, 0x8000707f#32, 0x00007057#32, xAll, none, []⟩,
  ⟨.vsetivli, 32, 0xc000707f#32, 0xc0007057#32, xAll, none, []⟩,
  ⟨.vsetvl, 32, 0xfe00707f#32, 0x80007057#32, xAll, none, []⟩]⟩

/-- `inst[6:0]` = 1010111, `inst[14:12]` = 000: R5003 `vadd.vv` to R5120 `vwredsum.vs`. -/
def partVectorArith2 : Part := ⟨0x0000707f#32, 0x00000057#32, [
  ⟨.vaddVv, 32, 0xfc00707f#32, 0x00000057#32, xAll, none, []⟩,
  ⟨.vsubVv, 32, 0xfc00707f#32, 0x08000057#32, xAll, none, []⟩,
  ⟨.vminuVv, 32, 0xfc00707f#32, 0x10000057#32, xAll, none, []⟩,
  ⟨.vminVv, 32, 0xfc00707f#32, 0x14000057#32, xAll, none, []⟩,
  ⟨.vmaxuVv, 32, 0xfc00707f#32, 0x18000057#32, xAll, none, []⟩,
  ⟨.vmaxVv, 32, 0xfc00707f#32, 0x1c000057#32, xAll, none, []⟩,
  ⟨.vandVv, 32, 0xfc00707f#32, 0x24000057#32, xAll, none, []⟩,
  ⟨.vorVv, 32, 0xfc00707f#32, 0x28000057#32, xAll, none, []⟩,
  ⟨.vxorVv, 32, 0xfc00707f#32, 0x2c000057#32, xAll, none, []⟩,
  ⟨.vrgatherVv, 32, 0xfc00707f#32, 0x30000057#32, xAll, none, []⟩,
  ⟨.vmseqVv, 32, 0xfc00707f#32, 0x60000057#32, xAll, none, []⟩,
  ⟨.vmsneVv, 32, 0xfc00707f#32, 0x64000057#32, xAll, none, []⟩,
  ⟨.vmsltuVv, 32, 0xfc00707f#32, 0x68000057#32, xAll, none, []⟩,
  ⟨.vmsltVv, 32, 0xfc00707f#32, 0x6c000057#32, xAll, none, []⟩,
  ⟨.vmsleuVv, 32, 0xfc00707f#32, 0x70000057#32, xAll, none, []⟩,
  ⟨.vmsleVv, 32, 0xfc00707f#32, 0x74000057#32, xAll, none, []⟩,
  ⟨.vsadduVv, 32, 0xfc00707f#32, 0x80000057#32, xAll, none, []⟩,
  ⟨.vsaddVv, 32, 0xfc00707f#32, 0x84000057#32, xAll, none, []⟩,
  ⟨.vssubuVv, 32, 0xfc00707f#32, 0x88000057#32, xAll, none, []⟩,
  ⟨.vssubVv, 32, 0xfc00707f#32, 0x8c000057#32, xAll, none, []⟩,
  ⟨.vsllVv, 32, 0xfc00707f#32, 0x94000057#32, xAll, none, []⟩,
  ⟨.vsmulVv, 32, 0xfc00707f#32, 0x9c000057#32, xAll, none, []⟩,
  ⟨.vsrlVv, 32, 0xfc00707f#32, 0xa0000057#32, xAll, none, []⟩,
  ⟨.vsraVv, 32, 0xfc00707f#32, 0xa4000057#32, xAll, none, []⟩,
  ⟨.vssrlVv, 32, 0xfc00707f#32, 0xa8000057#32, xAll, none, []⟩,
  ⟨.vssraVv, 32, 0xfc00707f#32, 0xac000057#32, xAll, none, []⟩,
  ⟨.vnsrlWv, 32, 0xfc00707f#32, 0xb0000057#32, xAll, none, []⟩,
  ⟨.vnsraWv, 32, 0xfc00707f#32, 0xb4000057#32, xAll, none, []⟩,
  ⟨.vnclipuWv, 32, 0xfc00707f#32, 0xb8000057#32, xAll, none, []⟩,
  ⟨.vnclipWv, 32, 0xfc00707f#32, 0xbc000057#32, xAll, none, []⟩,
  ⟨.vrgatherei16Vv, 32, 0xfc00707f#32, 0x38000057#32, xAll, none, []⟩,
  ⟨.vadcVvm, 32, 0xfe00707f#32, 0x40000057#32, xAll, none, []⟩,
  ⟨.vmadcVvm, 32, 0xfe00707f#32, 0x44000057#32, xAll, none, []⟩,
  ⟨.vmadcVv, 32, 0xfe00707f#32, 0x46000057#32, xAll, none, []⟩,
  ⟨.vsbcVvm, 32, 0xfe00707f#32, 0x48000057#32, xAll, none, []⟩,
  ⟨.vmsbcVvm, 32, 0xfe00707f#32, 0x4c000057#32, xAll, none, []⟩,
  ⟨.vmsbcVv, 32, 0xfe00707f#32, 0x4e000057#32, xAll, none, []⟩,
  ⟨.vmergeVvm, 32, 0xfe00707f#32, 0x5c000057#32, xAll, none, []⟩,
  ⟨.vmvVV, 32, 0xfff0707f#32, 0x5e000057#32, xAll, none, []⟩,
  ⟨.vwredsumuVs, 32, 0xfc00707f#32, 0xc0000057#32, xAll, none, []⟩,
  ⟨.vwredsumVs, 32, 0xfc00707f#32, 0xc4000057#32, xAll, none, []⟩]⟩

/-- `inst[6:0]` = 1010111, `inst[14:12]` = 100: R5004 `vadd.vx` to R5113 `vmv.v.x`. -/
def partVectorArith3 : Part := ⟨0x0000707f#32, 0x00004057#32, [
  ⟨.vaddVx, 32, 0xfc00707f#32, 0x00004057#32, xAll, none, []⟩,
  ⟨.vsubVx, 32, 0xfc00707f#32, 0x08004057#32, xAll, none, []⟩,
  ⟨.vrsubVx, 32, 0xfc00707f#32, 0x0c004057#32, xAll, none, []⟩,
  ⟨.vminuVx, 32, 0xfc00707f#32, 0x10004057#32, xAll, none, []⟩,
  ⟨.vminVx, 32, 0xfc00707f#32, 0x14004057#32, xAll, none, []⟩,
  ⟨.vmaxuVx, 32, 0xfc00707f#32, 0x18004057#32, xAll, none, []⟩,
  ⟨.vmaxVx, 32, 0xfc00707f#32, 0x1c004057#32, xAll, none, []⟩,
  ⟨.vandVx, 32, 0xfc00707f#32, 0x24004057#32, xAll, none, []⟩,
  ⟨.vorVx, 32, 0xfc00707f#32, 0x28004057#32, xAll, none, []⟩,
  ⟨.vxorVx, 32, 0xfc00707f#32, 0x2c004057#32, xAll, none, []⟩,
  ⟨.vrgatherVx, 32, 0xfc00707f#32, 0x30004057#32, xAll, none, []⟩,
  ⟨.vslidedownVx, 32, 0xfc00707f#32, 0x3c004057#32, xAll, none, []⟩,
  ⟨.vmseqVx, 32, 0xfc00707f#32, 0x60004057#32, xAll, none, []⟩,
  ⟨.vmsneVx, 32, 0xfc00707f#32, 0x64004057#32, xAll, none, []⟩,
  ⟨.vmsltuVx, 32, 0xfc00707f#32, 0x68004057#32, xAll, none, []⟩,
  ⟨.vmsltVx, 32, 0xfc00707f#32, 0x6c004057#32, xAll, none, []⟩,
  ⟨.vmsleuVx, 32, 0xfc00707f#32, 0x70004057#32, xAll, none, []⟩,
  ⟨.vmsleVx, 32, 0xfc00707f#32, 0x74004057#32, xAll, none, []⟩,
  ⟨.vmsgtuVx, 32, 0xfc00707f#32, 0x78004057#32, xAll, none, []⟩,
  ⟨.vmsgtVx, 32, 0xfc00707f#32, 0x7c004057#32, xAll, none, []⟩,
  ⟨.vsadduVx, 32, 0xfc00707f#32, 0x80004057#32, xAll, none, []⟩,
  ⟨.vsaddVx, 32, 0xfc00707f#32, 0x84004057#32, xAll, none, []⟩,
  ⟨.vssubuVx, 32, 0xfc00707f#32, 0x88004057#32, xAll, none, []⟩,
  ⟨.vssubVx, 32, 0xfc00707f#32, 0x8c004057#32, xAll, none, []⟩,
  ⟨.vsllVx, 32, 0xfc00707f#32, 0x94004057#32, xAll, none, []⟩,
  ⟨.vsmulVx, 32, 0xfc00707f#32, 0x9c004057#32, xAll, none, []⟩,
  ⟨.vsrlVx, 32, 0xfc00707f#32, 0xa0004057#32, xAll, none, []⟩,
  ⟨.vsraVx, 32, 0xfc00707f#32, 0xa4004057#32, xAll, none, []⟩,
  ⟨.vssrlVx, 32, 0xfc00707f#32, 0xa8004057#32, xAll, none, []⟩,
  ⟨.vssraVx, 32, 0xfc00707f#32, 0xac004057#32, xAll, none, []⟩,
  ⟨.vnsrlWx, 32, 0xfc00707f#32, 0xb0004057#32, xAll, none, []⟩,
  ⟨.vnsraWx, 32, 0xfc00707f#32, 0xb4004057#32, xAll, none, []⟩,
  ⟨.vnclipuWx, 32, 0xfc00707f#32, 0xb8004057#32, xAll, none, []⟩,
  ⟨.vnclipWx, 32, 0xfc00707f#32, 0xbc004057#32, xAll, none, []⟩,
  ⟨.vslideupVx, 32, 0xfc00707f#32, 0x38004057#32, xAll, none, []⟩,
  ⟨.vadcVxm, 32, 0xfe00707f#32, 0x40004057#32, xAll, none, []⟩,
  ⟨.vmadcVxm, 32, 0xfe00707f#32, 0x44004057#32, xAll, none, []⟩,
  ⟨.vmadcVx, 32, 0xfe00707f#32, 0x46004057#32, xAll, none, []⟩,
  ⟨.vsbcVxm, 32, 0xfe00707f#32, 0x48004057#32, xAll, none, []⟩,
  ⟨.vmsbcVxm, 32, 0xfe00707f#32, 0x4c004057#32, xAll, none, []⟩,
  ⟨.vmsbcVx, 32, 0xfe00707f#32, 0x4e004057#32, xAll, none, []⟩,
  ⟨.vmergeVxm, 32, 0xfe00707f#32, 0x5c004057#32, xAll, none, []⟩,
  ⟨.vmvVX, 32, 0xfff0707f#32, 0x5e004057#32, xAll, none, []⟩]⟩

/-- `inst[6:0]` = 1010111, `inst[14:12]` = 011: R5005 `vadd.vi` to R5118 `vmv8r.v`. -/
def partVectorArith4 : Part := ⟨0x0000707f#32, 0x00003057#32, [
  ⟨.vaddVi, 32, 0xfc00707f#32, 0x00003057#32, xAll, none, []⟩,
  ⟨.vrsubVi, 32, 0xfc00707f#32, 0x0c003057#32, xAll, none, []⟩,
  ⟨.vandVi, 32, 0xfc00707f#32, 0x24003057#32, xAll, none, []⟩,
  ⟨.vorVi, 32, 0xfc00707f#32, 0x28003057#32, xAll, none, []⟩,
  ⟨.vxorVi, 32, 0xfc00707f#32, 0x2c003057#32, xAll, none, []⟩,
  ⟨.vrgatherVi, 32, 0xfc00707f#32, 0x30003057#32, xAll, none, []⟩,
  ⟨.vslidedownVi, 32, 0xfc00707f#32, 0x3c003057#32, xAll, none, []⟩,
  ⟨.vmseqVi, 32, 0xfc00707f#32, 0x60003057#32, xAll, none, []⟩,
  ⟨.vmsneVi, 32, 0xfc00707f#32, 0x64003057#32, xAll, none, []⟩,
  ⟨.vmsleuVi, 32, 0xfc00707f#32, 0x70003057#32, xAll, none, []⟩,
  ⟨.vmsleVi, 32, 0xfc00707f#32, 0x74003057#32, xAll, none, []⟩,
  ⟨.vmsgtuVi, 32, 0xfc00707f#32, 0x78003057#32, xAll, none, []⟩,
  ⟨.vmsgtVi, 32, 0xfc00707f#32, 0x7c003057#32, xAll, none, []⟩,
  ⟨.vsadduVi, 32, 0xfc00707f#32, 0x80003057#32, xAll, none, []⟩,
  ⟨.vsaddVi, 32, 0xfc00707f#32, 0x84003057#32, xAll, none, []⟩,
  ⟨.vsllVi, 32, 0xfc00707f#32, 0x94003057#32, xAll, none, []⟩,
  ⟨.vsrlVi, 32, 0xfc00707f#32, 0xa0003057#32, xAll, none, []⟩,
  ⟨.vsraVi, 32, 0xfc00707f#32, 0xa4003057#32, xAll, none, []⟩,
  ⟨.vssrlVi, 32, 0xfc00707f#32, 0xa8003057#32, xAll, none, []⟩,
  ⟨.vssraVi, 32, 0xfc00707f#32, 0xac003057#32, xAll, none, []⟩,
  ⟨.vnsrlWi, 32, 0xfc00707f#32, 0xb0003057#32, xAll, none, []⟩,
  ⟨.vnsraWi, 32, 0xfc00707f#32, 0xb4003057#32, xAll, none, []⟩,
  ⟨.vnclipuWi, 32, 0xfc00707f#32, 0xb8003057#32, xAll, none, []⟩,
  ⟨.vnclipWi, 32, 0xfc00707f#32, 0xbc003057#32, xAll, none, []⟩,
  ⟨.vslideupVi, 32, 0xfc00707f#32, 0x38003057#32, xAll, none, []⟩,
  ⟨.vadcVim, 32, 0xfe00707f#32, 0x40003057#32, xAll, none, []⟩,
  ⟨.vmadcVim, 32, 0xfe00707f#32, 0x44003057#32, xAll, none, []⟩,
  ⟨.vmadcVi, 32, 0xfe00707f#32, 0x46003057#32, xAll, none, []⟩,
  ⟨.vmergeVim, 32, 0xfe00707f#32, 0x5c003057#32, xAll, none, []⟩,
  ⟨.vmvVI, 32, 0xfff0707f#32, 0x5e003057#32, xAll, none, []⟩,
  ⟨.vmv1rV, 32, 0xfe0ff07f#32, 0x9e003057#32, xAll, none, []⟩,
  ⟨.vmv2rV, 32, 0xfe0ff07f#32, 0x9e00b057#32, xAll, none, []⟩,
  ⟨.vmv4rV, 32, 0xfe0ff07f#32, 0x9e01b057#32, xAll, none, []⟩,
  ⟨.vmv8rV, 32, 0xfe0ff07f#32, 0x9e03b057#32, xAll, none, []⟩]⟩

/-- `inst[6:0]` = 1010111, `inst[14:12]` = 010: R5121 `vredsum.vs` to R5215 `vmxnor.mm`. -/
def partVectorArith5 : Part := ⟨0x0000707f#32, 0x00002057#32, [
  ⟨.vredsumVs, 32, 0xfc00707f#32, 0x00002057#32, xAll, none, []⟩,
  ⟨.vredandVs, 32, 0xfc00707f#32, 0x04002057#32, xAll, none, []⟩,
  ⟨.vredorVs, 32, 0xfc00707f#32, 0x08002057#32, xAll, none, []⟩,
  ⟨.vredxorVs, 32, 0xfc00707f#32, 0x0c002057#32, xAll, none, []⟩,
  ⟨.vredminuVs, 32, 0xfc00707f#32, 0x10002057#32, xAll, none, []⟩,
  ⟨.vredminVs, 32, 0xfc00707f#32, 0x14002057#32, xAll, none, []⟩,
  ⟨.vredmaxuVs, 32, 0xfc00707f#32, 0x18002057#32, xAll, none, []⟩,
  ⟨.vredmaxVs, 32, 0xfc00707f#32, 0x1c002057#32, xAll, none, []⟩,
  ⟨.vaadduVv, 32, 0xfc00707f#32, 0x20002057#32, xAll, none, []⟩,
  ⟨.vaaddVv, 32, 0xfc00707f#32, 0x24002057#32, xAll, none, []⟩,
  ⟨.vasubuVv, 32, 0xfc00707f#32, 0x28002057#32, xAll, none, []⟩,
  ⟨.vasubVv, 32, 0xfc00707f#32, 0x2c002057#32, xAll, none, []⟩,
  ⟨.vdivuVv, 32, 0xfc00707f#32, 0x80002057#32, xAll, none, []⟩,
  ⟨.vdivVv, 32, 0xfc00707f#32, 0x84002057#32, xAll, none, []⟩,
  ⟨.vremuVv, 32, 0xfc00707f#32, 0x88002057#32, xAll, none, []⟩,
  ⟨.vremVv, 32, 0xfc00707f#32, 0x8c002057#32, xAll, none, []⟩,
  ⟨.vmulhuVv, 32, 0xfc00707f#32, 0x90002057#32, xAll, none, []⟩,
  ⟨.vmulVv, 32, 0xfc00707f#32, 0x94002057#32, xAll, none, []⟩,
  ⟨.vmulhsuVv, 32, 0xfc00707f#32, 0x98002057#32, xAll, none, []⟩,
  ⟨.vmulhVv, 32, 0xfc00707f#32, 0x9c002057#32, xAll, none, []⟩,
  ⟨.vmaddVv, 32, 0xfc00707f#32, 0xa4002057#32, xAll, none, []⟩,
  ⟨.vnmsubVv, 32, 0xfc00707f#32, 0xac002057#32, xAll, none, []⟩,
  ⟨.vmaccVv, 32, 0xfc00707f#32, 0xb4002057#32, xAll, none, []⟩,
  ⟨.vnmsacVv, 32, 0xfc00707f#32, 0xbc002057#32, xAll, none, []⟩,
  ⟨.vwadduVv, 32, 0xfc00707f#32, 0xc0002057#32, xAll, none, []⟩,
  ⟨.vwaddVv, 32, 0xfc00707f#32, 0xc4002057#32, xAll, none, []⟩,
  ⟨.vwsubuVv, 32, 0xfc00707f#32, 0xc8002057#32, xAll, none, []⟩,
  ⟨.vwsubVv, 32, 0xfc00707f#32, 0xcc002057#32, xAll, none, []⟩,
  ⟨.vwmuluVv, 32, 0xfc00707f#32, 0xe0002057#32, xAll, none, []⟩,
  ⟨.vwmulsuVv, 32, 0xfc00707f#32, 0xe8002057#32, xAll, none, []⟩,
  ⟨.vwmulVv, 32, 0xfc00707f#32, 0xec002057#32, xAll, none, []⟩,
  ⟨.vwmaccuVv, 32, 0xfc00707f#32, 0xf0002057#32, xAll, none, []⟩,
  ⟨.vwmaccVv, 32, 0xfc00707f#32, 0xf4002057#32, xAll, none, []⟩,
  ⟨.vwmaccsuVv, 32, 0xfc00707f#32, 0xfc002057#32, xAll, none, []⟩,
  ⟨.vwadduWv, 32, 0xfc00707f#32, 0xd0002057#32, xAll, none, []⟩,
  ⟨.vwaddWv, 32, 0xfc00707f#32, 0xd4002057#32, xAll, none, []⟩,
  ⟨.vwsubuWv, 32, 0xfc00707f#32, 0xd8002057#32, xAll, none, []⟩,
  ⟨.vwsubWv, 32, 0xfc00707f#32, 0xdc002057#32, xAll, none, []⟩,
  ⟨.vmvXS, 32, 0xfe0ff07f#32, 0x42002057#32, xAll, none, []⟩,
  ⟨.vcpopM, 32, 0xfc0ff07f#32, 0x40082057#32, xAll, none, []⟩,
  ⟨.vfirstM, 32, 0xfc0ff07f#32, 0x4008a057#32, xAll, none, []⟩,
  ⟨.vzextVf8, 32, 0xfc0ff07f#32, 0x48012057#32, xAll, none, []⟩,
  ⟨.vsextVf8, 32, 0xfc0ff07f#32, 0x4801a057#32, xAll, none, []⟩,
  ⟨.vzextVf4, 32, 0xfc0ff07f#32, 0x48022057#32, xAll, none, []⟩,
  ⟨.vsextVf4, 32, 0xfc0ff07f#32, 0x4802a057#32, xAll, none, []⟩,
  ⟨.vzextVf2, 32, 0xfc0ff07f#32, 0x48032057#32, xAll, none, []⟩,
  ⟨.vsextVf2, 32, 0xfc0ff07f#32, 0x4803a057#32, xAll, none, []⟩,
  ⟨.vmsbfM, 32, 0xfc0ff07f#32, 0x5000a057#32, xAll, none, []⟩,
  ⟨.vmsofM, 32, 0xfc0ff07f#32, 0x50012057#32, xAll, none, []⟩,
  ⟨.vmsifM, 32, 0xfc0ff07f#32, 0x5001a057#32, xAll, none, []⟩,
  ⟨.viotaM, 32, 0xfc0ff07f#32, 0x50082057#32, xAll, none, []⟩,
  ⟨.vidV, 32, 0xfdfff07f#32, 0x5008a057#32, xAll, none, []⟩,
  ⟨.vcompressVm, 32, 0xfe00707f#32, 0x5e002057#32, xAll, none, []⟩,
  ⟨.vmandnMm, 32, 0xfe00707f#32, 0x62002057#32, xAll, none, []⟩,
  ⟨.vmandMm, 32, 0xfe00707f#32, 0x66002057#32, xAll, none, []⟩,
  ⟨.vmorMm, 32, 0xfe00707f#32, 0x6a002057#32, xAll, none, []⟩,
  ⟨.vmxorMm, 32, 0xfe00707f#32, 0x6e002057#32, xAll, none, []⟩,
  ⟨.vmornMm, 32, 0xfe00707f#32, 0x72002057#32, xAll, none, []⟩,
  ⟨.vmnandMm, 32, 0xfe00707f#32, 0x76002057#32, xAll, none, []⟩,
  ⟨.vmnorMm, 32, 0xfe00707f#32, 0x7a002057#32, xAll, none, []⟩,
  ⟨.vmxnorMm, 32, 0xfe00707f#32, 0x7e002057#32, xAll, none, []⟩]⟩

/-- `inst[6:0]` = 1010111, `inst[14:12]` = 110: R5130 `vaaddu.vx` to R5195 `vmv.s.x`. -/
def partVectorArith6 : Part := ⟨0x0000707f#32, 0x00006057#32, [
  ⟨.vaadduVx, 32, 0xfc00707f#32, 0x20006057#32, xAll, none, []⟩,
  ⟨.vaaddVx, 32, 0xfc00707f#32, 0x24006057#32, xAll, none, []⟩,
  ⟨.vasubuVx, 32, 0xfc00707f#32, 0x28006057#32, xAll, none, []⟩,
  ⟨.vasubVx, 32, 0xfc00707f#32, 0x2c006057#32, xAll, none, []⟩,
  ⟨.vdivuVx, 32, 0xfc00707f#32, 0x80006057#32, xAll, none, []⟩,
  ⟨.vdivVx, 32, 0xfc00707f#32, 0x84006057#32, xAll, none, []⟩,
  ⟨.vremuVx, 32, 0xfc00707f#32, 0x88006057#32, xAll, none, []⟩,
  ⟨.vremVx, 32, 0xfc00707f#32, 0x8c006057#32, xAll, none, []⟩,
  ⟨.vmulhuVx, 32, 0xfc00707f#32, 0x90006057#32, xAll, none, []⟩,
  ⟨.vmulVx, 32, 0xfc00707f#32, 0x94006057#32, xAll, none, []⟩,
  ⟨.vmulhsuVx, 32, 0xfc00707f#32, 0x98006057#32, xAll, none, []⟩,
  ⟨.vmulhVx, 32, 0xfc00707f#32, 0x9c006057#32, xAll, none, []⟩,
  ⟨.vmaddVx, 32, 0xfc00707f#32, 0xa4006057#32, xAll, none, []⟩,
  ⟨.vnmsubVx, 32, 0xfc00707f#32, 0xac006057#32, xAll, none, []⟩,
  ⟨.vmaccVx, 32, 0xfc00707f#32, 0xb4006057#32, xAll, none, []⟩,
  ⟨.vnmsacVx, 32, 0xfc00707f#32, 0xbc006057#32, xAll, none, []⟩,
  ⟨.vwadduVx, 32, 0xfc00707f#32, 0xc0006057#32, xAll, none, []⟩,
  ⟨.vwaddVx, 32, 0xfc00707f#32, 0xc4006057#32, xAll, none, []⟩,
  ⟨.vwsubuVx, 32, 0xfc00707f#32, 0xc8006057#32, xAll, none, []⟩,
  ⟨.vwsubVx, 32, 0xfc00707f#32, 0xcc006057#32, xAll, none, []⟩,
  ⟨.vwmuluVx, 32, 0xfc00707f#32, 0xe0006057#32, xAll, none, []⟩,
  ⟨.vwmulsuVx, 32, 0xfc00707f#32, 0xe8006057#32, xAll, none, []⟩,
  ⟨.vwmulVx, 32, 0xfc00707f#32, 0xec006057#32, xAll, none, []⟩,
  ⟨.vwmaccuVx, 32, 0xfc00707f#32, 0xf0006057#32, xAll, none, []⟩,
  ⟨.vwmaccVx, 32, 0xfc00707f#32, 0xf4006057#32, xAll, none, []⟩,
  ⟨.vwmaccusVx, 32, 0xfc00707f#32, 0xf8006057#32, xAll, none, []⟩,
  ⟨.vwmaccsuVx, 32, 0xfc00707f#32, 0xfc006057#32, xAll, none, []⟩,
  ⟨.vwadduWx, 32, 0xfc00707f#32, 0xd0006057#32, xAll, none, []⟩,
  ⟨.vwaddWx, 32, 0xfc00707f#32, 0xd4006057#32, xAll, none, []⟩,
  ⟨.vwsubuWx, 32, 0xfc00707f#32, 0xd8006057#32, xAll, none, []⟩,
  ⟨.vwsubWx, 32, 0xfc00707f#32, 0xdc006057#32, xAll, none, []⟩,
  ⟨.vslide1upVx, 32, 0xfc00707f#32, 0x38006057#32, xAll, none, []⟩,
  ⟨.vslide1downVx, 32, 0xfc00707f#32, 0x3c006057#32, xAll, none, []⟩,
  ⟨.vmvSX, 32, 0xfff0707f#32, 0x42006057#32, xAll, none, []⟩]⟩

/-- `inst[6:0]` = 1010111, `inst[14:12]` = 001: R5216 `vfadd.vv` to R5314 `vfclass.v`. -/
def partVectorArith7 : Part := ⟨0x0000707f#32, 0x00001057#32, [
  ⟨.vfaddVv, 32, 0xfc00707f#32, 0x00001057#32, xAll, none, []⟩,
  ⟨.vfsubVv, 32, 0xfc00707f#32, 0x08001057#32, xAll, none, []⟩,
  ⟨.vfminVv, 32, 0xfc00707f#32, 0x10001057#32, xAll, none, []⟩,
  ⟨.vfmaxVv, 32, 0xfc00707f#32, 0x18001057#32, xAll, none, []⟩,
  ⟨.vfsgnjVv, 32, 0xfc00707f#32, 0x20001057#32, xAll, none, []⟩,
  ⟨.vfsgnjnVv, 32, 0xfc00707f#32, 0x24001057#32, xAll, none, []⟩,
  ⟨.vfsgnjxVv, 32, 0xfc00707f#32, 0x28001057#32, xAll, none, []⟩,
  ⟨.vmfeqVv, 32, 0xfc00707f#32, 0x60001057#32, xAll, none, []⟩,
  ⟨.vmfleVv, 32, 0xfc00707f#32, 0x64001057#32, xAll, none, []⟩,
  ⟨.vmfltVv, 32, 0xfc00707f#32, 0x6c001057#32, xAll, none, []⟩,
  ⟨.vmfneVv, 32, 0xfc00707f#32, 0x70001057#32, xAll, none, []⟩,
  ⟨.vfdivVv, 32, 0xfc00707f#32, 0x80001057#32, xAll, none, []⟩,
  ⟨.vfmulVv, 32, 0xfc00707f#32, 0x90001057#32, xAll, none, []⟩,
  ⟨.vfmaddVv, 32, 0xfc00707f#32, 0xa0001057#32, xAll, none, []⟩,
  ⟨.vfnmaddVv, 32, 0xfc00707f#32, 0xa4001057#32, xAll, none, []⟩,
  ⟨.vfmsubVv, 32, 0xfc00707f#32, 0xa8001057#32, xAll, none, []⟩,
  ⟨.vfnmsubVv, 32, 0xfc00707f#32, 0xac001057#32, xAll, none, []⟩,
  ⟨.vfmaccVv, 32, 0xfc00707f#32, 0xb0001057#32, xAll, none, []⟩,
  ⟨.vfnmaccVv, 32, 0xfc00707f#32, 0xb4001057#32, xAll, none, []⟩,
  ⟨.vfmsacVv, 32, 0xfc00707f#32, 0xb8001057#32, xAll, none, []⟩,
  ⟨.vfnmsacVv, 32, 0xfc00707f#32, 0xbc001057#32, xAll, none, []⟩,
  ⟨.vfwaddVv, 32, 0xfc00707f#32, 0xc0001057#32, xAll, none, []⟩,
  ⟨.vfwsubVv, 32, 0xfc00707f#32, 0xc8001057#32, xAll, none, []⟩,
  ⟨.vfwmulVv, 32, 0xfc00707f#32, 0xe0001057#32, xAll, none, []⟩,
  ⟨.vfwmaccVv, 32, 0xfc00707f#32, 0xf0001057#32, xAll, none, []⟩,
  ⟨.vfwnmaccVv, 32, 0xfc00707f#32, 0xf4001057#32, xAll, none, []⟩,
  ⟨.vfwmsacVv, 32, 0xfc00707f#32, 0xf8001057#32, xAll, none, []⟩,
  ⟨.vfwnmsacVv, 32, 0xfc00707f#32, 0xfc001057#32, xAll, none, []⟩,
  ⟨.vfredusumVs, 32, 0xfc00707f#32, 0x04001057#32, xAll, none, []⟩,
  ⟨.vfredosumVs, 32, 0xfc00707f#32, 0x0c001057#32, xAll, none, []⟩,
  ⟨.vfredminVs, 32, 0xfc00707f#32, 0x14001057#32, xAll, none, []⟩,
  ⟨.vfredmaxVs, 32, 0xfc00707f#32, 0x1c001057#32, xAll, none, []⟩,
  ⟨.vfwredusumVs, 32, 0xfc00707f#32, 0xc4001057#32, xAll, none, []⟩,
  ⟨.vfwredosumVs, 32, 0xfc00707f#32, 0xcc001057#32, xAll, none, []⟩,
  ⟨.vfwaddWv, 32, 0xfc00707f#32, 0xd0001057#32, xAll, none, []⟩,
  ⟨.vfwsubWv, 32, 0xfc00707f#32, 0xd8001057#32, xAll, none, []⟩,
  ⟨.vfmvFS, 32, 0xfe0ff07f#32, 0x42001057#32, xAll, none, []⟩,
  ⟨.vfcvtXuFV, 32, 0xfc0ff07f#32, 0x48001057#32, xAll, none, []⟩,
  ⟨.vfcvtXFV, 32, 0xfc0ff07f#32, 0x48009057#32, xAll, none, []⟩,
  ⟨.vfcvtFXuV, 32, 0xfc0ff07f#32, 0x48011057#32, xAll, none, []⟩,
  ⟨.vfcvtFXV, 32, 0xfc0ff07f#32, 0x48019057#32, xAll, none, []⟩,
  ⟨.vfcvtRtzXuFV, 32, 0xfc0ff07f#32, 0x48031057#32, xAll, none, []⟩,
  ⟨.vfcvtRtzXFV, 32, 0xfc0ff07f#32, 0x48039057#32, xAll, none, []⟩,
  ⟨.vfwcvtXuFV, 32, 0xfc0ff07f#32, 0x48041057#32, xAll, none, []⟩,
  ⟨.vfwcvtXFV, 32, 0xfc0ff07f#32, 0x48049057#32, xAll, none, []⟩,
  ⟨.vfwcvtFXuV, 32, 0xfc0ff07f#32, 0x48051057#32, xAll, none, []⟩,
  ⟨.vfwcvtFXV, 32, 0xfc0ff07f#32, 0x48059057#32, xAll, none, []⟩,
  ⟨.vfwcvtFFV, 32, 0xfc0ff07f#32, 0x48061057#32, xAll, none, []⟩,
  ⟨.vfwcvtRtzXuFV, 32, 0xfc0ff07f#32, 0x48071057#32, xAll, none, []⟩,
  ⟨.vfwcvtRtzXFV, 32, 0xfc0ff07f#32, 0x48079057#32, xAll, none, []⟩,
  ⟨.vfncvtXuFW, 32, 0xfc0ff07f#32, 0x48081057#32, xAll, none, []⟩,
  ⟨.vfncvtXFW, 32, 0xfc0ff07f#32, 0x48089057#32, xAll, none, []⟩,
  ⟨.vfncvtFXuW, 32, 0xfc0ff07f#32, 0x48091057#32, xAll, none, []⟩,
  ⟨.vfncvtFXW, 32, 0xfc0ff07f#32, 0x48099057#32, xAll, none, []⟩,
  ⟨.vfncvtFFW, 32, 0xfc0ff07f#32, 0x480a1057#32, xAll, none, []⟩,
  ⟨.vfncvtRodFFW, 32, 0xfc0ff07f#32, 0x480a9057#32, xAll, none, []⟩,
  ⟨.vfncvtRtzXuFW, 32, 0xfc0ff07f#32, 0x480b1057#32, xAll, none, []⟩,
  ⟨.vfncvtRtzXFW, 32, 0xfc0ff07f#32, 0x480b9057#32, xAll, none, []⟩,
  ⟨.vfsqrtV, 32, 0xfc0ff07f#32, 0x4c001057#32, xAll, none, []⟩,
  ⟨.vfrsqrt7V, 32, 0xfc0ff07f#32, 0x4c021057#32, xAll, none, []⟩,
  ⟨.vfrec7V, 32, 0xfc0ff07f#32, 0x4c029057#32, xAll, none, []⟩,
  ⟨.vfclassV, 32, 0xfc0ff07f#32, 0x4c081057#32, xAll, none, []⟩]⟩

/-- `inst[6:0]` = 1010111, `inst[14:12]` = 101: R5217 `vfadd.vf` to R5316 `vfmv.v.f`. -/
def partVectorArith8 : Part := ⟨0x0000707f#32, 0x00005057#32, [
  ⟨.vfaddVf, 32, 0xfc00707f#32, 0x00005057#32, xAll, none, []⟩,
  ⟨.vfsubVf, 32, 0xfc00707f#32, 0x08005057#32, xAll, none, []⟩,
  ⟨.vfminVf, 32, 0xfc00707f#32, 0x10005057#32, xAll, none, []⟩,
  ⟨.vfmaxVf, 32, 0xfc00707f#32, 0x18005057#32, xAll, none, []⟩,
  ⟨.vfsgnjVf, 32, 0xfc00707f#32, 0x20005057#32, xAll, none, []⟩,
  ⟨.vfsgnjnVf, 32, 0xfc00707f#32, 0x24005057#32, xAll, none, []⟩,
  ⟨.vfsgnjxVf, 32, 0xfc00707f#32, 0x28005057#32, xAll, none, []⟩,
  ⟨.vfslide1upVf, 32, 0xfc00707f#32, 0x38005057#32, xAll, none, []⟩,
  ⟨.vfslide1downVf, 32, 0xfc00707f#32, 0x3c005057#32, xAll, none, []⟩,
  ⟨.vmfeqVf, 32, 0xfc00707f#32, 0x60005057#32, xAll, none, []⟩,
  ⟨.vmfleVf, 32, 0xfc00707f#32, 0x64005057#32, xAll, none, []⟩,
  ⟨.vmfltVf, 32, 0xfc00707f#32, 0x6c005057#32, xAll, none, []⟩,
  ⟨.vmfneVf, 32, 0xfc00707f#32, 0x70005057#32, xAll, none, []⟩,
  ⟨.vmfgtVf, 32, 0xfc00707f#32, 0x74005057#32, xAll, none, []⟩,
  ⟨.vmfgeVf, 32, 0xfc00707f#32, 0x7c005057#32, xAll, none, []⟩,
  ⟨.vfdivVf, 32, 0xfc00707f#32, 0x80005057#32, xAll, none, []⟩,
  ⟨.vfrdivVf, 32, 0xfc00707f#32, 0x84005057#32, xAll, none, []⟩,
  ⟨.vfmulVf, 32, 0xfc00707f#32, 0x90005057#32, xAll, none, []⟩,
  ⟨.vfrsubVf, 32, 0xfc00707f#32, 0x9c005057#32, xAll, none, []⟩,
  ⟨.vfmaddVf, 32, 0xfc00707f#32, 0xa0005057#32, xAll, none, []⟩,
  ⟨.vfnmaddVf, 32, 0xfc00707f#32, 0xa4005057#32, xAll, none, []⟩,
  ⟨.vfmsubVf, 32, 0xfc00707f#32, 0xa8005057#32, xAll, none, []⟩,
  ⟨.vfnmsubVf, 32, 0xfc00707f#32, 0xac005057#32, xAll, none, []⟩,
  ⟨.vfmaccVf, 32, 0xfc00707f#32, 0xb0005057#32, xAll, none, []⟩,
  ⟨.vfnmaccVf, 32, 0xfc00707f#32, 0xb4005057#32, xAll, none, []⟩,
  ⟨.vfmsacVf, 32, 0xfc00707f#32, 0xb8005057#32, xAll, none, []⟩,
  ⟨.vfnmsacVf, 32, 0xfc00707f#32, 0xbc005057#32, xAll, none, []⟩,
  ⟨.vfwaddVf, 32, 0xfc00707f#32, 0xc0005057#32, xAll, none, []⟩,
  ⟨.vfwsubVf, 32, 0xfc00707f#32, 0xc8005057#32, xAll, none, []⟩,
  ⟨.vfwmulVf, 32, 0xfc00707f#32, 0xe0005057#32, xAll, none, []⟩,
  ⟨.vfwmaccVf, 32, 0xfc00707f#32, 0xf0005057#32, xAll, none, []⟩,
  ⟨.vfwnmaccVf, 32, 0xfc00707f#32, 0xf4005057#32, xAll, none, []⟩,
  ⟨.vfwmsacVf, 32, 0xfc00707f#32, 0xf8005057#32, xAll, none, []⟩,
  ⟨.vfwnmsacVf, 32, 0xfc00707f#32, 0xfc005057#32, xAll, none, []⟩,
  ⟨.vfwaddWf, 32, 0xfc00707f#32, 0xd0005057#32, xAll, none, []⟩,
  ⟨.vfwsubWf, 32, 0xfc00707f#32, 0xd8005057#32, xAll, none, []⟩,
  ⟨.vfmvSF, 32, 0xfff0707f#32, 0x42005057#32, xAll, none, []⟩,
  ⟨.vfmergeVfm, 32, 0xfe00707f#32, 0x5c005057#32, xAll, none, []⟩,
  ⟨.vfmvVF, 32, 0xfff0707f#32, 0x5e005057#32, xAll, none, []⟩]⟩

/-- The parts of this file. -/
def partsVectorArith : List Part :=
  [partVectorArith1, partVectorArith2, partVectorArith3, partVectorArith4, partVectorArith5, partVectorArith6,
   partVectorArith7, partVectorArith8]

end Sys2Proof
end

