-- ==== Sys2Proof/Machine/RowsVectorLdst.lean ====
section
/-! DEFINITION. Machine/RowsVectorLdst.lean: the rows of the vector loads and stores (46_vector_ldst),
as spec/opcode_table.json lists them (30_encoding.md R110), in parts by the fields the trees discriminate on first (R104). -/

namespace Sys2Proof

/-- `inst[6:0]` = 0000111, `inst[14:12]` = 000: R6000 `vle8.v` to R6308 `vlm.v`. -/
def partVectorLdst1 : Part := ⟨0x0000707f#32, 0x00000007#32, [
  ⟨.vle8V, 32, 0xfdf0707f#32, 0x00000007#32, xAll, none, []⟩,
  ⟨.vle8ffV, 32, 0xfdf0707f#32, 0x01000007#32, xAll, none, []⟩,
  ⟨.vlse8V, 32, 0xfc00707f#32, 0x08000007#32, xAll, none, []⟩,
  ⟨.vluxei8V, 32, 0xfc00707f#32, 0x04000007#32, xAll, none, []⟩,
  ⟨.vloxei8V, 32, 0xfc00707f#32, 0x0c000007#32, xAll, none, []⟩,
  ⟨.vlseg2e8V, 32, 0xfdf0707f#32, 0x20000007#32, xAll, none, []⟩,
  ⟨.vlseg2e8ffV, 32, 0xfdf0707f#32, 0x21000007#32, xAll, none, []⟩,
  ⟨.vlsseg2e8V, 32, 0xfc00707f#32, 0x28000007#32, xAll, none, []⟩,
  ⟨.vluxseg2ei8V, 32, 0xfc00707f#32, 0x24000007#32, xAll, none, []⟩,
  ⟨.vloxseg2ei8V, 32, 0xfc00707f#32, 0x2c000007#32, xAll, none, []⟩,
  ⟨.vlseg3e8V, 32, 0xfdf0707f#32, 0x40000007#32, xAll, none, []⟩,
  ⟨.vlseg3e8ffV, 32, 0xfdf0707f#32, 0x41000007#32, xAll, none, []⟩,
  ⟨.vlsseg3e8V, 32, 0xfc00707f#32, 0x48000007#32, xAll, none, []⟩,
  ⟨.vluxseg3ei8V, 32, 0xfc00707f#32, 0x44000007#32, xAll, none, []⟩,
  ⟨.vloxseg3ei8V, 32, 0xfc00707f#32, 0x4c000007#32, xAll, none, []⟩,
  ⟨.vlseg4e8V, 32, 0xfdf0707f#32, 0x60000007#32, xAll, none, []⟩,
  ⟨.vlseg4e8ffV, 32, 0xfdf0707f#32, 0x61000007#32, xAll, none, []⟩,
  ⟨.vlsseg4e8V, 32, 0xfc00707f#32, 0x68000007#32, xAll, none, []⟩,
  ⟨.vluxseg4ei8V, 32, 0xfc00707f#32, 0x64000007#32, xAll, none, []⟩,
  ⟨.vloxseg4ei8V, 32, 0xfc00707f#32, 0x6c000007#32, xAll, none, []⟩,
  ⟨.vlseg5e8V, 32, 0xfdf0707f#32, 0x80000007#32, xAll, none, []⟩,
  ⟨.vlseg5e8ffV, 32, 0xfdf0707f#32, 0x81000007#32, xAll, none, []⟩,
  ⟨.vlsseg5e8V, 32, 0xfc00707f#32, 0x88000007#32, xAll, none, []⟩,
  ⟨.vluxseg5ei8V, 32, 0xfc00707f#32, 0x84000007#32, xAll, none, []⟩,
  ⟨.vloxseg5ei8V, 32, 0xfc00707f#32, 0x8c000007#32, xAll, none, []⟩,
  ⟨.vlseg6e8V, 32, 0xfdf0707f#32, 0xa0000007#32, xAll, none, []⟩,
  ⟨.vlseg6e8ffV, 32, 0xfdf0707f#32, 0xa1000007#32, xAll, none, []⟩,
  ⟨.vlsseg6e8V, 32, 0xfc00707f#32, 0xa8000007#32, xAll, none, []⟩,
  ⟨.vluxseg6ei8V, 32, 0xfc00707f#32, 0xa4000007#32, xAll, none, []⟩,
  ⟨.vloxseg6ei8V, 32, 0xfc00707f#32, 0xac000007#32, xAll, none, []⟩,
  ⟨.vlseg7e8V, 32, 0xfdf0707f#32, 0xc0000007#32, xAll, none, []⟩,
  ⟨.vlseg7e8ffV, 32, 0xfdf0707f#32, 0xc1000007#32, xAll, none, []⟩,
  ⟨.vlsseg7e8V, 32, 0xfc00707f#32, 0xc8000007#32, xAll, none, []⟩,
  ⟨.vluxseg7ei8V, 32, 0xfc00707f#32, 0xc4000007#32, xAll, none, []⟩,
  ⟨.vloxseg7ei8V, 32, 0xfc00707f#32, 0xcc000007#32, xAll, none, []⟩,
  ⟨.vlseg8e8V, 32, 0xfdf0707f#32, 0xe0000007#32, xAll, none, []⟩,
  ⟨.vlseg8e8ffV, 32, 0xfdf0707f#32, 0xe1000007#32, xAll, none, []⟩,
  ⟨.vlsseg8e8V, 32, 0xfc00707f#32, 0xe8000007#32, xAll, none, []⟩,
  ⟨.vluxseg8ei8V, 32, 0xfc00707f#32, 0xe4000007#32, xAll, none, []⟩,
  ⟨.vloxseg8ei8V, 32, 0xfc00707f#32, 0xec000007#32, xAll, none, []⟩,
  ⟨.vl1re8V, 32, 0xfff0707f#32, 0x02800007#32, xAll, none, []⟩,
  ⟨.vl2re8V, 32, 0xfff0707f#32, 0x22800007#32, xAll, none, []⟩,
  ⟨.vl4re8V, 32, 0xfff0707f#32, 0x62800007#32, xAll, none, []⟩,
  ⟨.vl8re8V, 32, 0xfff0707f#32, 0xe2800007#32, xAll, none, []⟩,
  ⟨.vlmV, 32, 0xfff0707f#32, 0x02b00007#32, xAll, none, []⟩]⟩

/-- `inst[6:0]` = 0000111, `inst[14:12]` = 101: R6076 `vle16.v` to R6151 `vl8re16.v`. -/
def partVectorLdst2 : Part := ⟨0x0000707f#32, 0x00005007#32, [
  ⟨.vle16V, 32, 0xfdf0707f#32, 0x00005007#32, xAll, none, []⟩,
  ⟨.vle16ffV, 32, 0xfdf0707f#32, 0x01005007#32, xAll, none, []⟩,
  ⟨.vlse16V, 32, 0xfc00707f#32, 0x08005007#32, xAll, none, []⟩,
  ⟨.vluxei16V, 32, 0xfc00707f#32, 0x04005007#32, xAll, none, []⟩,
  ⟨.vloxei16V, 32, 0xfc00707f#32, 0x0c005007#32, xAll, none, []⟩,
  ⟨.vlseg2e16V, 32, 0xfdf0707f#32, 0x20005007#32, xAll, none, []⟩,
  ⟨.vlseg2e16ffV, 32, 0xfdf0707f#32, 0x21005007#32, xAll, none, []⟩,
  ⟨.vlsseg2e16V, 32, 0xfc00707f#32, 0x28005007#32, xAll, none, []⟩,
  ⟨.vluxseg2ei16V, 32, 0xfc00707f#32, 0x24005007#32, xAll, none, []⟩,
  ⟨.vloxseg2ei16V, 32, 0xfc00707f#32, 0x2c005007#32, xAll, none, []⟩,
  ⟨.vlseg3e16V, 32, 0xfdf0707f#32, 0x40005007#32, xAll, none, []⟩,
  ⟨.vlseg3e16ffV, 32, 0xfdf0707f#32, 0x41005007#32, xAll, none, []⟩,
  ⟨.vlsseg3e16V, 32, 0xfc00707f#32, 0x48005007#32, xAll, none, []⟩,
  ⟨.vluxseg3ei16V, 32, 0xfc00707f#32, 0x44005007#32, xAll, none, []⟩,
  ⟨.vloxseg3ei16V, 32, 0xfc00707f#32, 0x4c005007#32, xAll, none, []⟩,
  ⟨.vlseg4e16V, 32, 0xfdf0707f#32, 0x60005007#32, xAll, none, []⟩,
  ⟨.vlseg4e16ffV, 32, 0xfdf0707f#32, 0x61005007#32, xAll, none, []⟩,
  ⟨.vlsseg4e16V, 32, 0xfc00707f#32, 0x68005007#32, xAll, none, []⟩,
  ⟨.vluxseg4ei16V, 32, 0xfc00707f#32, 0x64005007#32, xAll, none, []⟩,
  ⟨.vloxseg4ei16V, 32, 0xfc00707f#32, 0x6c005007#32, xAll, none, []⟩,
  ⟨.vlseg5e16V, 32, 0xfdf0707f#32, 0x80005007#32, xAll, none, []⟩,
  ⟨.vlseg5e16ffV, 32, 0xfdf0707f#32, 0x81005007#32, xAll, none, []⟩,
  ⟨.vlsseg5e16V, 32, 0xfc00707f#32, 0x88005007#32, xAll, none, []⟩,
  ⟨.vluxseg5ei16V, 32, 0xfc00707f#32, 0x84005007#32, xAll, none, []⟩,
  ⟨.vloxseg5ei16V, 32, 0xfc00707f#32, 0x8c005007#32, xAll, none, []⟩,
  ⟨.vlseg6e16V, 32, 0xfdf0707f#32, 0xa0005007#32, xAll, none, []⟩,
  ⟨.vlseg6e16ffV, 32, 0xfdf0707f#32, 0xa1005007#32, xAll, none, []⟩,
  ⟨.vlsseg6e16V, 32, 0xfc00707f#32, 0xa8005007#32, xAll, none, []⟩,
  ⟨.vluxseg6ei16V, 32, 0xfc00707f#32, 0xa4005007#32, xAll, none, []⟩,
  ⟨.vloxseg6ei16V, 32, 0xfc00707f#32, 0xac005007#32, xAll, none, []⟩,
  ⟨.vlseg7e16V, 32, 0xfdf0707f#32, 0xc0005007#32, xAll, none, []⟩,
  ⟨.vlseg7e16ffV, 32, 0xfdf0707f#32, 0xc1005007#32, xAll, none, []⟩,
  ⟨.vlsseg7e16V, 32, 0xfc00707f#32, 0xc8005007#32, xAll, none, []⟩,
  ⟨.vluxseg7ei16V, 32, 0xfc00707f#32, 0xc4005007#32, xAll, none, []⟩,
  ⟨.vloxseg7ei16V, 32, 0xfc00707f#32, 0xcc005007#32, xAll, none, []⟩,
  ⟨.vlseg8e16V, 32, 0xfdf0707f#32, 0xe0005007#32, xAll, none, []⟩,
  ⟨.vlseg8e16ffV, 32, 0xfdf0707f#32, 0xe1005007#32, xAll, none, []⟩,
  ⟨.vlsseg8e16V, 32, 0xfc00707f#32, 0xe8005007#32, xAll, none, []⟩,
  ⟨.vluxseg8ei16V, 32, 0xfc00707f#32, 0xe4005007#32, xAll, none, []⟩,
  ⟨.vloxseg8ei16V, 32, 0xfc00707f#32, 0xec005007#32, xAll, none, []⟩,
  ⟨.vl1re16V, 32, 0xfff0707f#32, 0x02805007#32, xAll, none, []⟩,
  ⟨.vl2re16V, 32, 0xfff0707f#32, 0x22805007#32, xAll, none, []⟩,
  ⟨.vl4re16V, 32, 0xfff0707f#32, 0x62805007#32, xAll, none, []⟩,
  ⟨.vl8re16V, 32, 0xfff0707f#32, 0xe2805007#32, xAll, none, []⟩]⟩

/-- `inst[6:0]` = 0000111, `inst[14:12]` = 110: R6152 `vle32.v` to R6227 `vl8re32.v`. -/
def partVectorLdst3 : Part := ⟨0x0000707f#32, 0x00006007#32, [
  ⟨.vle32V, 32, 0xfdf0707f#32, 0x00006007#32, xAll, none, []⟩,
  ⟨.vle32ffV, 32, 0xfdf0707f#32, 0x01006007#32, xAll, none, []⟩,
  ⟨.vlse32V, 32, 0xfc00707f#32, 0x08006007#32, xAll, none, []⟩,
  ⟨.vluxei32V, 32, 0xfc00707f#32, 0x04006007#32, xAll, none, []⟩,
  ⟨.vloxei32V, 32, 0xfc00707f#32, 0x0c006007#32, xAll, none, []⟩,
  ⟨.vlseg2e32V, 32, 0xfdf0707f#32, 0x20006007#32, xAll, none, []⟩,
  ⟨.vlseg2e32ffV, 32, 0xfdf0707f#32, 0x21006007#32, xAll, none, []⟩,
  ⟨.vlsseg2e32V, 32, 0xfc00707f#32, 0x28006007#32, xAll, none, []⟩,
  ⟨.vluxseg2ei32V, 32, 0xfc00707f#32, 0x24006007#32, xAll, none, []⟩,
  ⟨.vloxseg2ei32V, 32, 0xfc00707f#32, 0x2c006007#32, xAll, none, []⟩,
  ⟨.vlseg3e32V, 32, 0xfdf0707f#32, 0x40006007#32, xAll, none, []⟩,
  ⟨.vlseg3e32ffV, 32, 0xfdf0707f#32, 0x41006007#32, xAll, none, []⟩,
  ⟨.vlsseg3e32V, 32, 0xfc00707f#32, 0x48006007#32, xAll, none, []⟩,
  ⟨.vluxseg3ei32V, 32, 0xfc00707f#32, 0x44006007#32, xAll, none, []⟩,
  ⟨.vloxseg3ei32V, 32, 0xfc00707f#32, 0x4c006007#32, xAll, none, []⟩,
  ⟨.vlseg4e32V, 32, 0xfdf0707f#32, 0x60006007#32, xAll, none, []⟩,
  ⟨.vlseg4e32ffV, 32, 0xfdf0707f#32, 0x61006007#32, xAll, none, []⟩,
  ⟨.vlsseg4e32V, 32, 0xfc00707f#32, 0x68006007#32, xAll, none, []⟩,
  ⟨.vluxseg4ei32V, 32, 0xfc00707f#32, 0x64006007#32, xAll, none, []⟩,
  ⟨.vloxseg4ei32V, 32, 0xfc00707f#32, 0x6c006007#32, xAll, none, []⟩,
  ⟨.vlseg5e32V, 32, 0xfdf0707f#32, 0x80006007#32, xAll, none, []⟩,
  ⟨.vlseg5e32ffV, 32, 0xfdf0707f#32, 0x81006007#32, xAll, none, []⟩,
  ⟨.vlsseg5e32V, 32, 0xfc00707f#32, 0x88006007#32, xAll, none, []⟩,
  ⟨.vluxseg5ei32V, 32, 0xfc00707f#32, 0x84006007#32, xAll, none, []⟩,
  ⟨.vloxseg5ei32V, 32, 0xfc00707f#32, 0x8c006007#32, xAll, none, []⟩,
  ⟨.vlseg6e32V, 32, 0xfdf0707f#32, 0xa0006007#32, xAll, none, []⟩,
  ⟨.vlseg6e32ffV, 32, 0xfdf0707f#32, 0xa1006007#32, xAll, none, []⟩,
  ⟨.vlsseg6e32V, 32, 0xfc00707f#32, 0xa8006007#32, xAll, none, []⟩,
  ⟨.vluxseg6ei32V, 32, 0xfc00707f#32, 0xa4006007#32, xAll, none, []⟩,
  ⟨.vloxseg6ei32V, 32, 0xfc00707f#32, 0xac006007#32, xAll, none, []⟩,
  ⟨.vlseg7e32V, 32, 0xfdf0707f#32, 0xc0006007#32, xAll, none, []⟩,
  ⟨.vlseg7e32ffV, 32, 0xfdf0707f#32, 0xc1006007#32, xAll, none, []⟩,
  ⟨.vlsseg7e32V, 32, 0xfc00707f#32, 0xc8006007#32, xAll, none, []⟩,
  ⟨.vluxseg7ei32V, 32, 0xfc00707f#32, 0xc4006007#32, xAll, none, []⟩,
  ⟨.vloxseg7ei32V, 32, 0xfc00707f#32, 0xcc006007#32, xAll, none, []⟩,
  ⟨.vlseg8e32V, 32, 0xfdf0707f#32, 0xe0006007#32, xAll, none, []⟩,
  ⟨.vlseg8e32ffV, 32, 0xfdf0707f#32, 0xe1006007#32, xAll, none, []⟩,
  ⟨.vlsseg8e32V, 32, 0xfc00707f#32, 0xe8006007#32, xAll, none, []⟩,
  ⟨.vluxseg8ei32V, 32, 0xfc00707f#32, 0xe4006007#32, xAll, none, []⟩,
  ⟨.vloxseg8ei32V, 32, 0xfc00707f#32, 0xec006007#32, xAll, none, []⟩,
  ⟨.vl1re32V, 32, 0xfff0707f#32, 0x02806007#32, xAll, none, []⟩,
  ⟨.vl2re32V, 32, 0xfff0707f#32, 0x22806007#32, xAll, none, []⟩,
  ⟨.vl4re32V, 32, 0xfff0707f#32, 0x62806007#32, xAll, none, []⟩,
  ⟨.vl8re32V, 32, 0xfff0707f#32, 0xe2806007#32, xAll, none, []⟩]⟩

/-- `inst[6:0]` = 0000111, `inst[14:12]` = 111: R6228 `vle64.v` to R6303 `vl8re64.v`. -/
def partVectorLdst4 : Part := ⟨0x0000707f#32, 0x00007007#32, [
  ⟨.vle64V, 32, 0xfdf0707f#32, 0x00007007#32, xAll, none, []⟩,
  ⟨.vle64ffV, 32, 0xfdf0707f#32, 0x01007007#32, xAll, none, []⟩,
  ⟨.vlse64V, 32, 0xfc00707f#32, 0x08007007#32, xAll, none, []⟩,
  ⟨.vluxei64V, 32, 0xfc00707f#32, 0x04007007#32, xAll, none, []⟩,
  ⟨.vloxei64V, 32, 0xfc00707f#32, 0x0c007007#32, xAll, none, []⟩,
  ⟨.vlseg2e64V, 32, 0xfdf0707f#32, 0x20007007#32, xAll, none, []⟩,
  ⟨.vlseg2e64ffV, 32, 0xfdf0707f#32, 0x21007007#32, xAll, none, []⟩,
  ⟨.vlsseg2e64V, 32, 0xfc00707f#32, 0x28007007#32, xAll, none, []⟩,
  ⟨.vluxseg2ei64V, 32, 0xfc00707f#32, 0x24007007#32, xAll, none, []⟩,
  ⟨.vloxseg2ei64V, 32, 0xfc00707f#32, 0x2c007007#32, xAll, none, []⟩,
  ⟨.vlseg3e64V, 32, 0xfdf0707f#32, 0x40007007#32, xAll, none, []⟩,
  ⟨.vlseg3e64ffV, 32, 0xfdf0707f#32, 0x41007007#32, xAll, none, []⟩,
  ⟨.vlsseg3e64V, 32, 0xfc00707f#32, 0x48007007#32, xAll, none, []⟩,
  ⟨.vluxseg3ei64V, 32, 0xfc00707f#32, 0x44007007#32, xAll, none, []⟩,
  ⟨.vloxseg3ei64V, 32, 0xfc00707f#32, 0x4c007007#32, xAll, none, []⟩,
  ⟨.vlseg4e64V, 32, 0xfdf0707f#32, 0x60007007#32, xAll, none, []⟩,
  ⟨.vlseg4e64ffV, 32, 0xfdf0707f#32, 0x61007007#32, xAll, none, []⟩,
  ⟨.vlsseg4e64V, 32, 0xfc00707f#32, 0x68007007#32, xAll, none, []⟩,
  ⟨.vluxseg4ei64V, 32, 0xfc00707f#32, 0x64007007#32, xAll, none, []⟩,
  ⟨.vloxseg4ei64V, 32, 0xfc00707f#32, 0x6c007007#32, xAll, none, []⟩,
  ⟨.vlseg5e64V, 32, 0xfdf0707f#32, 0x80007007#32, xAll, none, []⟩,
  ⟨.vlseg5e64ffV, 32, 0xfdf0707f#32, 0x81007007#32, xAll, none, []⟩,
  ⟨.vlsseg5e64V, 32, 0xfc00707f#32, 0x88007007#32, xAll, none, []⟩,
  ⟨.vluxseg5ei64V, 32, 0xfc00707f#32, 0x84007007#32, xAll, none, []⟩,
  ⟨.vloxseg5ei64V, 32, 0xfc00707f#32, 0x8c007007#32, xAll, none, []⟩,
  ⟨.vlseg6e64V, 32, 0xfdf0707f#32, 0xa0007007#32, xAll, none, []⟩,
  ⟨.vlseg6e64ffV, 32, 0xfdf0707f#32, 0xa1007007#32, xAll, none, []⟩,
  ⟨.vlsseg6e64V, 32, 0xfc00707f#32, 0xa8007007#32, xAll, none, []⟩,
  ⟨.vluxseg6ei64V, 32, 0xfc00707f#32, 0xa4007007#32, xAll, none, []⟩,
  ⟨.vloxseg6ei64V, 32, 0xfc00707f#32, 0xac007007#32, xAll, none, []⟩,
  ⟨.vlseg7e64V, 32, 0xfdf0707f#32, 0xc0007007#32, xAll, none, []⟩,
  ⟨.vlseg7e64ffV, 32, 0xfdf0707f#32, 0xc1007007#32, xAll, none, []⟩,
  ⟨.vlsseg7e64V, 32, 0xfc00707f#32, 0xc8007007#32, xAll, none, []⟩,
  ⟨.vluxseg7ei64V, 32, 0xfc00707f#32, 0xc4007007#32, xAll, none, []⟩,
  ⟨.vloxseg7ei64V, 32, 0xfc00707f#32, 0xcc007007#32, xAll, none, []⟩,
  ⟨.vlseg8e64V, 32, 0xfdf0707f#32, 0xe0007007#32, xAll, none, []⟩,
  ⟨.vlseg8e64ffV, 32, 0xfdf0707f#32, 0xe1007007#32, xAll, none, []⟩,
  ⟨.vlsseg8e64V, 32, 0xfc00707f#32, 0xe8007007#32, xAll, none, []⟩,
  ⟨.vluxseg8ei64V, 32, 0xfc00707f#32, 0xe4007007#32, xAll, none, []⟩,
  ⟨.vloxseg8ei64V, 32, 0xfc00707f#32, 0xec007007#32, xAll, none, []⟩,
  ⟨.vl1re64V, 32, 0xfff0707f#32, 0x02807007#32, xAll, none, []⟩,
  ⟨.vl2re64V, 32, 0xfff0707f#32, 0x22807007#32, xAll, none, []⟩,
  ⟨.vl4re64V, 32, 0xfff0707f#32, 0x62807007#32, xAll, none, []⟩,
  ⟨.vl8re64V, 32, 0xfff0707f#32, 0xe2807007#32, xAll, none, []⟩]⟩

/-- `inst[6:0]` = 0100111, `inst[14:12]` = 000: R6002 `vse8.v` to R6309 `vsm.v`. -/
def partVectorLdst5 : Part := ⟨0x0000707f#32, 0x00000027#32, [
  ⟨.vse8V, 32, 0xfdf0707f#32, 0x00000027#32, xAll, none, []⟩,
  ⟨.vsse8V, 32, 0xfc00707f#32, 0x08000027#32, xAll, none, []⟩,
  ⟨.vsuxei8V, 32, 0xfc00707f#32, 0x04000027#32, xAll, none, []⟩,
  ⟨.vsoxei8V, 32, 0xfc00707f#32, 0x0c000027#32, xAll, none, []⟩,
  ⟨.vsseg2e8V, 32, 0xfdf0707f#32, 0x20000027#32, xAll, none, []⟩,
  ⟨.vssseg2e8V, 32, 0xfc00707f#32, 0x28000027#32, xAll, none, []⟩,
  ⟨.vsuxseg2ei8V, 32, 0xfc00707f#32, 0x24000027#32, xAll, none, []⟩,
  ⟨.vsoxseg2ei8V, 32, 0xfc00707f#32, 0x2c000027#32, xAll, none, []⟩,
  ⟨.vsseg3e8V, 32, 0xfdf0707f#32, 0x40000027#32, xAll, none, []⟩,
  ⟨.vssseg3e8V, 32, 0xfc00707f#32, 0x48000027#32, xAll, none, []⟩,
  ⟨.vsuxseg3ei8V, 32, 0xfc00707f#32, 0x44000027#32, xAll, none, []⟩,
  ⟨.vsoxseg3ei8V, 32, 0xfc00707f#32, 0x4c000027#32, xAll, none, []⟩,
  ⟨.vsseg4e8V, 32, 0xfdf0707f#32, 0x60000027#32, xAll, none, []⟩,
  ⟨.vssseg4e8V, 32, 0xfc00707f#32, 0x68000027#32, xAll, none, []⟩,
  ⟨.vsuxseg4ei8V, 32, 0xfc00707f#32, 0x64000027#32, xAll, none, []⟩,
  ⟨.vsoxseg4ei8V, 32, 0xfc00707f#32, 0x6c000027#32, xAll, none, []⟩,
  ⟨.vsseg5e8V, 32, 0xfdf0707f#32, 0x80000027#32, xAll, none, []⟩,
  ⟨.vssseg5e8V, 32, 0xfc00707f#32, 0x88000027#32, xAll, none, []⟩,
  ⟨.vsuxseg5ei8V, 32, 0xfc00707f#32, 0x84000027#32, xAll, none, []⟩,
  ⟨.vsoxseg5ei8V, 32, 0xfc00707f#32, 0x8c000027#32, xAll, none, []⟩,
  ⟨.vsseg6e8V, 32, 0xfdf0707f#32, 0xa0000027#32, xAll, none, []⟩,
  ⟨.vssseg6e8V, 32, 0xfc00707f#32, 0xa8000027#32, xAll, none, []⟩,
  ⟨.vsuxseg6ei8V, 32, 0xfc00707f#32, 0xa4000027#32, xAll, none, []⟩,
  ⟨.vsoxseg6ei8V, 32, 0xfc00707f#32, 0xac000027#32, xAll, none, []⟩,
  ⟨.vsseg7e8V, 32, 0xfdf0707f#32, 0xc0000027#32, xAll, none, []⟩,
  ⟨.vssseg7e8V, 32, 0xfc00707f#32, 0xc8000027#32, xAll, none, []⟩,
  ⟨.vsuxseg7ei8V, 32, 0xfc00707f#32, 0xc4000027#32, xAll, none, []⟩,
  ⟨.vsoxseg7ei8V, 32, 0xfc00707f#32, 0xcc000027#32, xAll, none, []⟩,
  ⟨.vsseg8e8V, 32, 0xfdf0707f#32, 0xe0000027#32, xAll, none, []⟩,
  ⟨.vssseg8e8V, 32, 0xfc00707f#32, 0xe8000027#32, xAll, none, []⟩,
  ⟨.vsuxseg8ei8V, 32, 0xfc00707f#32, 0xe4000027#32, xAll, none, []⟩,
  ⟨.vsoxseg8ei8V, 32, 0xfc00707f#32, 0xec000027#32, xAll, none, []⟩,
  ⟨.vs1rV, 32, 0xfff0707f#32, 0x02800027#32, xAll, none, []⟩,
  ⟨.vs2rV, 32, 0xfff0707f#32, 0x22800027#32, xAll, none, []⟩,
  ⟨.vs4rV, 32, 0xfff0707f#32, 0x62800027#32, xAll, none, []⟩,
  ⟨.vs8rV, 32, 0xfff0707f#32, 0xe2800027#32, xAll, none, []⟩,
  ⟨.vsmV, 32, 0xfff0707f#32, 0x02b00027#32, xAll, none, []⟩]⟩

/-- `inst[6:0]` = 0100111, `inst[14:12]` = 101: R6078 `vse16.v` to R6147 `vsoxseg8ei16.v`. -/
def partVectorLdst6 : Part := ⟨0x0000707f#32, 0x00005027#32, [
  ⟨.vse16V, 32, 0xfdf0707f#32, 0x00005027#32, xAll, none, []⟩,
  ⟨.vsse16V, 32, 0xfc00707f#32, 0x08005027#32, xAll, none, []⟩,
  ⟨.vsuxei16V, 32, 0xfc00707f#32, 0x04005027#32, xAll, none, []⟩,
  ⟨.vsoxei16V, 32, 0xfc00707f#32, 0x0c005027#32, xAll, none, []⟩,
  ⟨.vsseg2e16V, 32, 0xfdf0707f#32, 0x20005027#32, xAll, none, []⟩,
  ⟨.vssseg2e16V, 32, 0xfc00707f#32, 0x28005027#32, xAll, none, []⟩,
  ⟨.vsuxseg2ei16V, 32, 0xfc00707f#32, 0x24005027#32, xAll, none, []⟩,
  ⟨.vsoxseg2ei16V, 32, 0xfc00707f#32, 0x2c005027#32, xAll, none, []⟩,
  ⟨.vsseg3e16V, 32, 0xfdf0707f#32, 0x40005027#32, xAll, none, []⟩,
  ⟨.vssseg3e16V, 32, 0xfc00707f#32, 0x48005027#32, xAll, none, []⟩,
  ⟨.vsuxseg3ei16V, 32, 0xfc00707f#32, 0x44005027#32, xAll, none, []⟩,
  ⟨.vsoxseg3ei16V, 32, 0xfc00707f#32, 0x4c005027#32, xAll, none, []⟩,
  ⟨.vsseg4e16V, 32, 0xfdf0707f#32, 0x60005027#32, xAll, none, []⟩,
  ⟨.vssseg4e16V, 32, 0xfc00707f#32, 0x68005027#32, xAll, none, []⟩,
  ⟨.vsuxseg4ei16V, 32, 0xfc00707f#32, 0x64005027#32, xAll, none, []⟩,
  ⟨.vsoxseg4ei16V, 32, 0xfc00707f#32, 0x6c005027#32, xAll, none, []⟩,
  ⟨.vsseg5e16V, 32, 0xfdf0707f#32, 0x80005027#32, xAll, none, []⟩,
  ⟨.vssseg5e16V, 32, 0xfc00707f#32, 0x88005027#32, xAll, none, []⟩,
  ⟨.vsuxseg5ei16V, 32, 0xfc00707f#32, 0x84005027#32, xAll, none, []⟩,
  ⟨.vsoxseg5ei16V, 32, 0xfc00707f#32, 0x8c005027#32, xAll, none, []⟩,
  ⟨.vsseg6e16V, 32, 0xfdf0707f#32, 0xa0005027#32, xAll, none, []⟩,
  ⟨.vssseg6e16V, 32, 0xfc00707f#32, 0xa8005027#32, xAll, none, []⟩,
  ⟨.vsuxseg6ei16V, 32, 0xfc00707f#32, 0xa4005027#32, xAll, none, []⟩,
  ⟨.vsoxseg6ei16V, 32, 0xfc00707f#32, 0xac005027#32, xAll, none, []⟩,
  ⟨.vsseg7e16V, 32, 0xfdf0707f#32, 0xc0005027#32, xAll, none, []⟩,
  ⟨.vssseg7e16V, 32, 0xfc00707f#32, 0xc8005027#32, xAll, none, []⟩,
  ⟨.vsuxseg7ei16V, 32, 0xfc00707f#32, 0xc4005027#32, xAll, none, []⟩,
  ⟨.vsoxseg7ei16V, 32, 0xfc00707f#32, 0xcc005027#32, xAll, none, []⟩,
  ⟨.vsseg8e16V, 32, 0xfdf0707f#32, 0xe0005027#32, xAll, none, []⟩,
  ⟨.vssseg8e16V, 32, 0xfc00707f#32, 0xe8005027#32, xAll, none, []⟩,
  ⟨.vsuxseg8ei16V, 32, 0xfc00707f#32, 0xe4005027#32, xAll, none, []⟩,
  ⟨.vsoxseg8ei16V, 32, 0xfc00707f#32, 0xec005027#32, xAll, none, []⟩]⟩

/-- `inst[6:0]` = 0100111, `inst[14:12]` = 110: R6154 `vse32.v` to R6223 `vsoxseg8ei32.v`. -/
def partVectorLdst7 : Part := ⟨0x0000707f#32, 0x00006027#32, [
  ⟨.vse32V, 32, 0xfdf0707f#32, 0x00006027#32, xAll, none, []⟩,
  ⟨.vsse32V, 32, 0xfc00707f#32, 0x08006027#32, xAll, none, []⟩,
  ⟨.vsuxei32V, 32, 0xfc00707f#32, 0x04006027#32, xAll, none, []⟩,
  ⟨.vsoxei32V, 32, 0xfc00707f#32, 0x0c006027#32, xAll, none, []⟩,
  ⟨.vsseg2e32V, 32, 0xfdf0707f#32, 0x20006027#32, xAll, none, []⟩,
  ⟨.vssseg2e32V, 32, 0xfc00707f#32, 0x28006027#32, xAll, none, []⟩,
  ⟨.vsuxseg2ei32V, 32, 0xfc00707f#32, 0x24006027#32, xAll, none, []⟩,
  ⟨.vsoxseg2ei32V, 32, 0xfc00707f#32, 0x2c006027#32, xAll, none, []⟩,
  ⟨.vsseg3e32V, 32, 0xfdf0707f#32, 0x40006027#32, xAll, none, []⟩,
  ⟨.vssseg3e32V, 32, 0xfc00707f#32, 0x48006027#32, xAll, none, []⟩,
  ⟨.vsuxseg3ei32V, 32, 0xfc00707f#32, 0x44006027#32, xAll, none, []⟩,
  ⟨.vsoxseg3ei32V, 32, 0xfc00707f#32, 0x4c006027#32, xAll, none, []⟩,
  ⟨.vsseg4e32V, 32, 0xfdf0707f#32, 0x60006027#32, xAll, none, []⟩,
  ⟨.vssseg4e32V, 32, 0xfc00707f#32, 0x68006027#32, xAll, none, []⟩,
  ⟨.vsuxseg4ei32V, 32, 0xfc00707f#32, 0x64006027#32, xAll, none, []⟩,
  ⟨.vsoxseg4ei32V, 32, 0xfc00707f#32, 0x6c006027#32, xAll, none, []⟩,
  ⟨.vsseg5e32V, 32, 0xfdf0707f#32, 0x80006027#32, xAll, none, []⟩,
  ⟨.vssseg5e32V, 32, 0xfc00707f#32, 0x88006027#32, xAll, none, []⟩,
  ⟨.vsuxseg5ei32V, 32, 0xfc00707f#32, 0x84006027#32, xAll, none, []⟩,
  ⟨.vsoxseg5ei32V, 32, 0xfc00707f#32, 0x8c006027#32, xAll, none, []⟩,
  ⟨.vsseg6e32V, 32, 0xfdf0707f#32, 0xa0006027#32, xAll, none, []⟩,
  ⟨.vssseg6e32V, 32, 0xfc00707f#32, 0xa8006027#32, xAll, none, []⟩,
  ⟨.vsuxseg6ei32V, 32, 0xfc00707f#32, 0xa4006027#32, xAll, none, []⟩,
  ⟨.vsoxseg6ei32V, 32, 0xfc00707f#32, 0xac006027#32, xAll, none, []⟩,
  ⟨.vsseg7e32V, 32, 0xfdf0707f#32, 0xc0006027#32, xAll, none, []⟩,
  ⟨.vssseg7e32V, 32, 0xfc00707f#32, 0xc8006027#32, xAll, none, []⟩,
  ⟨.vsuxseg7ei32V, 32, 0xfc00707f#32, 0xc4006027#32, xAll, none, []⟩,
  ⟨.vsoxseg7ei32V, 32, 0xfc00707f#32, 0xcc006027#32, xAll, none, []⟩,
  ⟨.vsseg8e32V, 32, 0xfdf0707f#32, 0xe0006027#32, xAll, none, []⟩,
  ⟨.vssseg8e32V, 32, 0xfc00707f#32, 0xe8006027#32, xAll, none, []⟩,
  ⟨.vsuxseg8ei32V, 32, 0xfc00707f#32, 0xe4006027#32, xAll, none, []⟩,
  ⟨.vsoxseg8ei32V, 32, 0xfc00707f#32, 0xec006027#32, xAll, none, []⟩]⟩

/-- `inst[6:0]` = 0100111, `inst[14:12]` = 111: R6230 `vse64.v` to R6299 `vsoxseg8ei64.v`. -/
def partVectorLdst8 : Part := ⟨0x0000707f#32, 0x00007027#32, [
  ⟨.vse64V, 32, 0xfdf0707f#32, 0x00007027#32, xAll, none, []⟩,
  ⟨.vsse64V, 32, 0xfc00707f#32, 0x08007027#32, xAll, none, []⟩,
  ⟨.vsuxei64V, 32, 0xfc00707f#32, 0x04007027#32, xAll, none, []⟩,
  ⟨.vsoxei64V, 32, 0xfc00707f#32, 0x0c007027#32, xAll, none, []⟩,
  ⟨.vsseg2e64V, 32, 0xfdf0707f#32, 0x20007027#32, xAll, none, []⟩,
  ⟨.vssseg2e64V, 32, 0xfc00707f#32, 0x28007027#32, xAll, none, []⟩,
  ⟨.vsuxseg2ei64V, 32, 0xfc00707f#32, 0x24007027#32, xAll, none, []⟩,
  ⟨.vsoxseg2ei64V, 32, 0xfc00707f#32, 0x2c007027#32, xAll, none, []⟩,
  ⟨.vsseg3e64V, 32, 0xfdf0707f#32, 0x40007027#32, xAll, none, []⟩,
  ⟨.vssseg3e64V, 32, 0xfc00707f#32, 0x48007027#32, xAll, none, []⟩,
  ⟨.vsuxseg3ei64V, 32, 0xfc00707f#32, 0x44007027#32, xAll, none, []⟩,
  ⟨.vsoxseg3ei64V, 32, 0xfc00707f#32, 0x4c007027#32, xAll, none, []⟩,
  ⟨.vsseg4e64V, 32, 0xfdf0707f#32, 0x60007027#32, xAll, none, []⟩,
  ⟨.vssseg4e64V, 32, 0xfc00707f#32, 0x68007027#32, xAll, none, []⟩,
  ⟨.vsuxseg4ei64V, 32, 0xfc00707f#32, 0x64007027#32, xAll, none, []⟩,
  ⟨.vsoxseg4ei64V, 32, 0xfc00707f#32, 0x6c007027#32, xAll, none, []⟩,
  ⟨.vsseg5e64V, 32, 0xfdf0707f#32, 0x80007027#32, xAll, none, []⟩,
  ⟨.vssseg5e64V, 32, 0xfc00707f#32, 0x88007027#32, xAll, none, []⟩,
  ⟨.vsuxseg5ei64V, 32, 0xfc00707f#32, 0x84007027#32, xAll, none, []⟩,
  ⟨.vsoxseg5ei64V, 32, 0xfc00707f#32, 0x8c007027#32, xAll, none, []⟩,
  ⟨.vsseg6e64V, 32, 0xfdf0707f#32, 0xa0007027#32, xAll, none, []⟩,
  ⟨.vssseg6e64V, 32, 0xfc00707f#32, 0xa8007027#32, xAll, none, []⟩,
  ⟨.vsuxseg6ei64V, 32, 0xfc00707f#32, 0xa4007027#32, xAll, none, []⟩,
  ⟨.vsoxseg6ei64V, 32, 0xfc00707f#32, 0xac007027#32, xAll, none, []⟩,
  ⟨.vsseg7e64V, 32, 0xfdf0707f#32, 0xc0007027#32, xAll, none, []⟩,
  ⟨.vssseg7e64V, 32, 0xfc00707f#32, 0xc8007027#32, xAll, none, []⟩,
  ⟨.vsuxseg7ei64V, 32, 0xfc00707f#32, 0xc4007027#32, xAll, none, []⟩,
  ⟨.vsoxseg7ei64V, 32, 0xfc00707f#32, 0xcc007027#32, xAll, none, []⟩,
  ⟨.vsseg8e64V, 32, 0xfdf0707f#32, 0xe0007027#32, xAll, none, []⟩,
  ⟨.vssseg8e64V, 32, 0xfc00707f#32, 0xe8007027#32, xAll, none, []⟩,
  ⟨.vsuxseg8ei64V, 32, 0xfc00707f#32, 0xe4007027#32, xAll, none, []⟩,
  ⟨.vsoxseg8ei64V, 32, 0xfc00707f#32, 0xec007027#32, xAll, none, []⟩]⟩

/-- The parts of this file. -/
def partsVectorLdst : List Part :=
  [partVectorLdst1, partVectorLdst2, partVectorLdst3, partVectorLdst4, partVectorLdst5, partVectorLdst6,
   partVectorLdst7, partVectorLdst8]

end Sys2Proof
end

