-- ==== Sys2Proof/Machine/RowsVendor.lean ====
section
/-! DEFINITION. Machine/RowsVendor.lean: the rows of the vendor trees (47_vendor.md), one part for each guard flag
(40_pipeline.md R201). -/

namespace Sys2Proof

/-- The rows guarded by cfg.xtheadba: `th.addsl`. -/
def partXtheadba : Part := ⟨0x0000007f#32, 0x0000000b#32, [
  ⟨.thAddsl, 32, 0xf800707f#32, 0x0000100b#32, xAll, none, []⟩]⟩

/-- The rows guarded by cfg.xtheadbb: `th.srri`, `th.srriw`, `th.ext`, `th.extu`, `th.ff0`, `th.ff1`, `th.rev`,
`th.revw`, `th.tstnbz`. -/
def partXtheadbb : Part := ⟨0x0000007f#32, 0x0000000b#32, [
  ⟨.thSrri, 32, 0xfc00707f#32, 0x1000100b#32, xAll, none, []⟩,
  ⟨.thSrriw, 32, 0xfe00707f#32, 0x1400100b#32, xAll, none, []⟩,
  ⟨.thExt, 32, 0x0000707f#32, 0x0000200b#32, xAll, none, []⟩,
  ⟨.thExtu, 32, 0x0000707f#32, 0x0000300b#32, xAll, none, []⟩,
  ⟨.thFf0, 32, 0xfff0707f#32, 0x8400100b#32, xAll, none, []⟩,
  ⟨.thFf1, 32, 0xfff0707f#32, 0x8600100b#32, xAll, none, []⟩,
  ⟨.thRev, 32, 0xfff0707f#32, 0x8200100b#32, xAll, none, []⟩,
  ⟨.thRevw, 32, 0xfff0707f#32, 0x9000100b#32, xAll, none, []⟩,
  ⟨.thTstnbz, 32, 0xfff0707f#32, 0x8000100b#32, xAll, none, []⟩]⟩

/-- The rows guarded by cfg.xtheadbs: `th.tst`. -/
def partXtheadbs : Part := ⟨0x0000007f#32, 0x0000000b#32, [
  ⟨.thTst, 32, 0xfc00707f#32, 0x8800100b#32, xAll, none, []⟩]⟩

/-- The rows guarded by cfg.xtheadcondmov: `th.mveqz`, `th.mvnez`. -/
def partXtheadcondmov : Part := ⟨0x0000007f#32, 0x0000000b#32, [
  ⟨.thMveqz, 32, 0xfe00707f#32, 0x4000100b#32, xAll, none, []⟩,
  ⟨.thMvnez, 32, 0xfe00707f#32, 0x4200100b#32, xAll, none, []⟩]⟩

/-- The rows guarded by cfg.xventanacondops: `vt.maskc`, `vt.maskcn`. -/
def partXventanacondops : Part := ⟨0x0000007f#32, 0x0000007b#32, [
  ⟨.vtMaskc, 32, 0xfe00707f#32, 0x0000607b#32, xAll, none, []⟩,
  ⟨.vtMaskcn, 32, 0xfe00707f#32, 0x0000707b#32, xAll, none, []⟩]⟩

end Sys2Proof
end

