-- ==== Sys2Proof/Decode.lean ====
section
/-! DEFINITION. Decode.lean: the byte order and length of the instruction stream (20_memory.md R61 to R64), the extension
dispatcher and the decode trees (40_pipeline.md R201 to R205), the decoder from a window to an opcode, and the encoder. -/

namespace Sys2Proof

/-- A code unit of two bytes: the byte that comes first in the stream is bits 7:0 (R61). -/
def unitOfBytes (first second : Byte) : CodeUnit := second ++ first

/-- The code units of a byte stream (R61); a last odd byte makes no unit. -/
def unitsOfBytes : List Byte → List CodeUnit
  | b0 :: b1 :: rest => unitOfBytes b0 b1 :: unitsOfBytes rest
  | _ => []

/-- The byte length of the instruction that starts with `u0` (R62). -/
def fetchLen (u0 : CodeUnit) : Nat :=
  if u0.extractLsb' 0 2 ≠ 0b11 then 2
  else if u0.extractLsb' 2 3 ≠ 0b111 then 4
  else if u0.extractLsb' 0 6 = 0b011111 then 6
  else if u0.extractLsb' 0 7 = 0b0111111 then 8
  else 0

/-- The word the trees see (R64): `u0` for a length of 2, `u1 ++ u0` for 4. No tree holds a row of a 6 or 8 byte word. -/
def instWord (win : Window) (len : Nat) : Inst :=
  if len = 2 then win.u0.setWidth 32 else win.u1 ++ win.u0

/-- The parts of the base tree, from the files 41 to 46. -/
def baseParts : List Part :=
  partsInteger ++ partsFloat ++ partsBitmanip ++ partsCompressed ++ partsVectorArith ++ partsVectorLdst

/-- The base tree: every row of the files 41 to 46 (R111). -/
def baseTree : List Row := baseParts.flatMap Part.rows

/-- A decode tree: the rows the spec gives, in parts, or the OPEN parameter `VENDOR_ROWS(flag)` (R10). -/
inductive Tree where
  | given (parts : List Part)
  | vendorRows (flag : Flag)
deriving DecidableEq, Repr

/-- The rows the spec gives a tree (R111). -/
def Tree.rows : Tree → List Row
  | .given parts => parts.flatMap Part.rows
  | .vendorRows _ => []

/-- An entry of the dispatcher table: guard (`none` is always true), catalog and tree (R201). -/
structure DispatchEntry where
  guard : Option Flag
  catalog : Catalog
  tree : Tree
deriving DecidableEq, Repr

/-- The dispatcher table, entries 0 to 12 in their order (R201). -/
def dispatchTable : List DispatchEntry := [
  ⟨none, .base, .given baseParts⟩,
  ⟨some .xtheadba, .xthead, .given [partXtheadba]⟩,
  ⟨some .xtheadbb, .xthead, .given [partXtheadbb]⟩,
  ⟨some .xtheadbs, .xthead, .given [partXtheadbs]⟩,
  ⟨some .xtheadcmo, .xthead, .vendorRows .xtheadcmo⟩,
  ⟨some .xtheadcondmov, .xthead, .given [partXtheadcondmov]⟩,
  ⟨some .xtheadfmemidx, .xthead, .vendorRows .xtheadfmemidx⟩,
  ⟨some .xtheadfmv, .xthead, .vendorRows .xtheadfmv⟩,
  ⟨some .xtheadmac, .xthead, .vendorRows .xtheadmac⟩,
  ⟨some .xtheadmemidx, .xthead, .vendorRows .xtheadmemidx⟩,
  ⟨some .xtheadmempair, .xthead, .vendorRows .xtheadmempair⟩,
  ⟨some .xtheadsync, .xthead, .vendorRows .xtheadsync⟩,
  ⟨some .xventanacondops, .xventana, .given [partXventanacondops]⟩]

/-- What a tree found: a row the spec gives, or a row of an OPEN tree. -/
inductive Hit where
  | row (catalog : Catalog) (r : Row)
  | openRow (catalog : Catalog) (v : VendorRow)
deriving DecidableEq, Repr

/-- The row of the entry's tree that matches, if there is one (R203). -/
def DispatchEntry.search (e : DispatchEntry) (w : Inst) (len : Nat) (x : Xlen) (cfg : Cfg) (vr : List VendorRow) :
    Option Hit :=
  match e.tree with
  | .given parts => (parts.findSome? (fun p => p.search w len x cfg)).map (Hit.row e.catalog)
  | .vendorRows f => (vr.find? (fun v => v.tree == f && v.matchesWord w len x)).map (Hit.openRow e.catalog)

/-- The dispatch algorithm (R202): the first entry whose guard is true and whose tree finds a row. -/
def dispatch (w : Inst) (len : Nat) (x : Xlen) (cfg : Cfg) (vr : List VendorRow) : Option Hit :=
  dispatchTable.findSome? (fun e => if flagHolds cfg e.guard then e.search w len x cfg vr else none)

/-- Every row of every tree that the spec gives (R110). -/
def allRows : List Row := dispatchTable.flatMap (fun e => e.tree.rows)

/-- Why a window decodes to base illegal at the trees (R205, R9001). -/
inductive Reject where
  /-- `u0[6:0]` = 1111111: an unrecognized length prefix, length 0 (R62, R9001). -/
  | lengthPrefix
  /-- A 48-bit or 64-bit instruction: no tree holds one (R64). -/
  | wideInstruction
  /-- No row of any tried tree matches (R119, R205). -/
  | noRow
  /-- A byte list that ends before its first instruction does: the caller has no window to present (R30). -/
  | truncated
deriving DecidableEq, Repr

/-- The decoder's answer: an opcode the spec gives, a row of an OPEN vendor tree, or a rejection by name. -/
inductive Decoded where
  | instr (i : Instr)
  | openRow (v : VendorRow)
  | rejected (why : Reject)
deriving DecidableEq, Repr

/-- The decoder (R200, R202, R203): the opcode of the row the dispatcher finds. A 32-bit word that the lifter renames is
given by its pseudo-opcode (R211); a 16-bit word by its compressed opcode, which exec then expands (R208). -/
def decode (win : Window) (x : Xlen) (cfg : Cfg) (vr : List VendorRow) : Decoded :=
  let len := fetchLen win.u0
  if len = 0 then .rejected .lengthPrefix
  else
    let w := instWord win len
    match dispatch w len x cfg vr with
    | some (.row _ r) => .instr (if r.nbits = 32 then r.op.lifted (materialize r.op.codec w x) else r.op)
    | some (.openRow _ v) => .openRow v
    | none => .rejected (if len ≤ 4 then .noRow else .wideInstruction)

/-- The window that a byte stream's first eight bytes fill; bytes that are missing are 0 here, and a decode whose length
stays within the stream does not read them (R30). -/
def windowOfBytes (bs : List Byte) : Window :=
  let b (k : Nat) : Byte := bs.getD k 0
  ⟨unitOfBytes (b 0) (b 1), unitOfBytes (b 2) (b 3), unitOfBytes (b 4) (b 5), unitOfBytes (b 6) (b 7)⟩

/-- The decoder on a list of bytes, total: what its first bytes decode to, and the bytes behind them (R61, R62, R65). -/
def decodeBytes (bs : List Byte) (x : Xlen) (cfg : Cfg) (vr : List VendorRow) : Decoded × List Byte :=
  match unitsOfBytes bs with
  | [] => (.rejected .truncated, bs)
  | u0 :: _ =>
    if bs.length < fetchLen u0 then (.rejected .truncated, bs)
    else (decode (windowOfBytes bs) x cfg vr, bs.drop (fetchLen u0))

/-- The row that gives an opcode its encoding at this XLEN (R110, R114): of a pseudo-opcode, its canonical opcode's row. -/
def Instr.row? (i : Instr) (x : Xlen) : Option Row :=
  allRows.find? (fun r => r.op == i.canonical && r.xlens.contains x)

/-- The word of an opcode with these operand fields: the row's fixed bits and the fields its codec reads (R101 to R103,
R110); a field the decoder does not check is 0 (R122). -/
def encodeWord (x : Xlen) (i : Instr) (o : Operands) : Inst :=
  (match i.row? x with
    | some r => r.value
    | none => 0) ||| pack i.codec x o

/-- The encoder: the code units of a well-formed instruction, in stream order (R61, R64). -/
def encode (x : Xlen) (i : Instr) (o : Operands) : List CodeUnit :=
  let w := encodeWord x i o
  if i.length = 2 then [w.extractLsb' 0 16] else [w.extractLsb' 0 16, w.extractLsb' 16 16]

/-- The operand fields that a word gives an opcode (R206). -/
def operandsOf (x : Xlen) (i : Instr) (w : Inst) : Operands := materialize i.codec w x

/-- The little-endian bytes of a number, for a table word (R61). -/
def bytesOfNat : Nat → Nat → List Byte
  | 0, _ => []
  | k + 1, n => BitVec.ofNat 8 n :: bytesOfNat k (n / 256)

/-- The window of a table word: its `nbits` low bits in the stream's byte order, every bit above 0. -/
def tableWindow (nbits w : Nat) : Window := windowOfBytes (bytesOfNat 8 (w % 2 ^ nbits))

/-- The configuration with every flag 1. -/
def allFlags : Cfg :=
  ⟨true, true, true, true, true, true, true, true, true, true, true, true, true, true, true⟩

/-- The inputs XLEN and cfg a table word is presented with, tried in this order (DESIGN CHOICE, assumption log 5). -/
def presentations : List (Xlen × Cfg) :=
  [(.x64, allFlags), (.x32, allFlags), (.x128, allFlags), (.x64, {}), (.x32, {}), (.x128, {})]

/-- The decoder gives an opcode. -/
def Decoded.isInstr : Decoded → Bool
  | .instr _ => true
  | _ => false

/-- The XLEN and cfg a table word is presented with: the first at which the given trees hold a row for it. -/
def presentation (nbits w : Nat) : Xlen × Cfg :=
  (presentations.find? (fun p => (decode (tableWindow nbits w) p.1 p.2 []).isInstr)).getD (.x64, allFlags)

/-- The instruction the decoder reads from a table word, presented as `presentation` says. -/
def decodeTableWord (nbits w : Nat) : Option Instr :=
  match decode (tableWindow nbits w) (presentation nbits w).1 (presentation nbits w).2 [] with
  | .instr i => some i
  | _ => none

end Sys2Proof
end

