-- ==== Sys2Proof/Machine/State.lean ====
section
/-! DEFINITION. Machine/State.lean: the state (INVENTORY.md, State): the decoder's inputs and outputs (10_state.md R30 to
R36), the OPEN parameter (00_scope.md R10) and the caller's stream (60_exceptions.md R9018). The block keeps nothing of
its own (R46, R49) and has no pc, register file, CSR, mode, flag, memory or reservation (R44, R45, R47, R60, R71). -/

namespace Sys2Proof.Machine

/-- The value of the record's `op` (R39): illegal (number 0 of the base catalog), an opcode the spec gives, or the opcode of
a row of an OPEN vendor tree, by its number in the xthead catalog (R10). -/
inductive Opcode where
  | illegal
  | std (i : Instr)
  | openVendor (id : Nat)
deriving DecidableEq, Repr

/-- The decoded-instruction record `rec`, every field with its default (R36): the operand fields, and these four. -/
structure DecodedRecord extends Operands where
  len : Nat := 0
  catalog : Catalog := .base
  op : Opcode := .illegal
  codec : Codec := .none
deriving DecidableEq, Repr

/-- The state of the machine. `stream` is the caller's stream of code units from the current position on (R30, R65);
`xlen`, `cfg` and `vendorRows` are the inputs and parameters of the next decode (R31, R32, R10); `len` and `record` are the
block's outputs (R33, R34). `pos` is the MODEL's own: the code units the caller has moved past (assumption log 2). -/
structure State where
  stream : List CodeUnit
  pos : Nat
  xlen : Xlen
  cfg : Cfg
  vendorRows : List VendorRow
  len : Nat
  record : DecodedRecord
deriving DecidableEq, Repr

/-- Why a step stops with a fault: it never does. "There are exactly two outcomes, never an exception/fault" (R9000), so
the type has no constructor, and none is raised (safe). -/
inductive Fault where
deriving DecidableEq, Repr

/-- Why a step refuses an instruction. -/
inductive Refusal where
  /-- Raised by an arm of `exec` whose instruction has no meaning yet; no arm of this model raises it. Safe: the model
  stops where the hardware goes on. -/
  | notModelled (mnemonic : String)
deriving DecidableEq, Repr

/-- The outcome of a meaning or of a step. -/
abbrev Result := Host.Outcome State Fault Refusal

/-- Right after reset. The block has no reset state (R48, R9100). The outputs hold the per-decode defaults (R9101; DEDUCED,
assumption log 4). The inputs, which the caller must supply before the first decode (R9103), are a DESIGN CHOICE
(assumption log 4): no stream, XLEN 64, the base config. The OPEN rows are the spec's default, none (R10). -/
def State.reset : State where
  stream := []
  pos := 0
  xlen := .x64
  cfg := {}
  vendorRows := []
  len := 0
  record := {}

end Sys2Proof.Machine
end

