-- ==== Sys2Proof/Machine/Ops.lean ====
section
/-! DEFINITION. Machine/Ops.lean: the shared operations: the window the caller presents (10_state.md R30), the stages behind
the decode trees (40_pipeline.md R206 to R211), the output of a record, and the caller's advance (60_exceptions.md R9018).
There is no operation over memory or registers (R45, R60), none over flags, and none that takes an exception or returns
from one: the block raises nothing and has no trap entry and no trap return (R9000, R9005, R9006). -/

namespace Sys2Proof.Machine

/-- Code unit `k` of the window: the stream's, or a free value where the stream ends (R30; assumption log 3). -/
def State.unitAt (s : State) (k : Nat) : CodeUnit := s.stream.getD k (Config.unitPastEnd (s.pos + k))

/-- The input `win`: the next four units of the stream (R30). -/
def State.win (s : State) : Window := ⟨s.unitAt 0, s.unitAt 1, s.unitAt 2, s.unitAt 3⟩

/-- The byte length of the instruction at the start of the window (R62). -/
def State.instLen (s : State) : Nat := fetchLen s.win.u0

/-- The instruction word `inst` (R64). -/
def State.inst (s : State) : Inst := instWord s.win s.instLen

/-- The illegal record: every field but `len` at its default (R41, R205, R210). -/
def illegalRecord (len : Nat) : DecodedRecord := { len := len }

/-- Compressed-instruction expander (R208): a 16-bit opcode with a target at this XLEN becomes the target, with the target's
codec and the operand fields unchanged; where the nonzero-immediate check fails the record becomes illegal (R209, R210). -/
def expand (x : Xlen) (r : DecodedRecord) : DecodedRecord :=
  match r.op with
  | .std i =>
    if i.length = 2 then
      match i.target x with
      | none => r
      | some t =>
        if i.descriptor.nonzeroImm && r.imm == 0 then illegalRecord r.len
        else { r with op := .std t, codec := t.codec }
    else r
  | .illegal | .openVendor _ => r

/-- Pseudo-instruction lifter (R211): in the base catalog, the first rule of the opcode's list whose constraints all hold
renames the opcode; no operand field changes. -/
def lift (r : DecodedRecord) : DecodedRecord :=
  match r.catalog, r.op with
  | .base, .std i =>
    match i.descriptor.pseudo.find? (PseudoRule.holds r.toOperands) with
    | some p => { r with op := .std p.op, codec := p.op.codec }
    | none => r
  | _, _ => r

/-- The record after the materializer, of an opcode of the catalog `c` with this codec (R203, R206, R207). -/
def State.materialized (s : State) (c : Catalog) (op : Opcode) (codec : Codec) : DecodedRecord :=
  { materialize codec s.inst s.xlen with len := s.instLen, catalog := c, op := op, codec := codec }

/-- The outputs `len` and `rec` driven with a record (R33, R34, R36); every input stays as it is (R32, R46). -/
def State.output (s : State) (r : DecodedRecord) : State := { s with len := r.len, record := r }

/-- The result of a decode at an opcode the spec gives: materialize, expand, lift, output (R200). -/
def emit (op : Instr) (codec : Codec) (s : State) : Result :=
  .next (s.output (lift (expand s.xlen (s.materialized op.catalog (.std op) codec))))

/-- The result of a decode at a row of an OPEN vendor tree: an xthead opcode, never expanded or lifted (R10, R208, R211). -/
def emitOpen (v : VendorRow) (s : State) : Result :=
  .next (s.output (s.materialized .xthead (.openVendor v.id) v.codec))

/-- The result of a decode that finds no row, or no length: the illegal record with the length kept (R64, R205). -/
def emitIllegal (s : State) : Result := .next (s.output (illegalRecord s.instLen))

/-- The caller's advance (R65, R9018): the next window starts `len` bytes further. After `len` 0 the window stays, for the
caller cannot proceed past it (assumption log 7). -/
def State.advance (s : State) : State :=
  { s with stream := s.stream.drop (s.len / 2), pos := s.pos + s.len / 2 }

end Sys2Proof.Machine
end

