-- ==== Sys2Proof/Machine/Bitmanip.lean ====
section
/-! DEFINITION. Machine/Bitmanip.lean: the meanings of the bit-manipulation, conditional and scalar crypto opcodes (43_bitmanip_crypto): each is the decode result the
block produces for the opcode (00_scope.md R7, 40_pipeline.md R200). -/

namespace Sys2Proof.Machine

/-- R3000 `sh1add`: codec `r`. -/
def execSh1add (s : State) : Result := emit .sh1add .r s

/-- R3001 `sh2add`: codec `r`. -/
def execSh2add (s : State) : Result := emit .sh2add .r s

/-- R3002 `sh3add`: codec `r`. -/
def execSh3add (s : State) : Result := emit .sh3add .r s

/-- R3003 `add.uw`: codec `r`; lifts to `zext.w`. -/
def execAddUw (s : State) : Result := emit .addUw .r s

/-- R3004 `sh1add.uw`: codec `r`. -/
def execSh1addUw (s : State) : Result := emit .sh1addUw .r s

/-- R3005 `sh2add.uw`: codec `r`. -/
def execSh2addUw (s : State) : Result := emit .sh2addUw .r s

/-- R3006 `sh3add.uw`: codec `r`. -/
def execSh3addUw (s : State) : Result := emit .sh3addUw .r s

/-- R3007 `slli.uw`: codec `i_sh6`. -/
def execSlliUw (s : State) : Result := emit .slliUw .i_sh6 s

/-- R3008 `andn`: codec `r`. -/
def execAndn (s : State) : Result := emit .andn .r s

/-- R3009 `orn`: codec `r`. -/
def execOrn (s : State) : Result := emit .orn .r s

/-- R3010 `xnor`: codec `r`. -/
def execXnor (s : State) : Result := emit .xnor .r s

/-- R3011 `clz`: codec `r2`. -/
def execClz (s : State) : Result := emit .clz .r2 s

/-- R3012 `ctz`: codec `r2`. -/
def execCtz (s : State) : Result := emit .ctz .r2 s

/-- R3013 `cpop`: codec `r2`. -/
def execCpop (s : State) : Result := emit .cpop .r2 s

/-- R3014 `sext.b`: codec `r2`. -/
def execSextB (s : State) : Result := emit .sextB .r2 s

/-- R3015 `sext.h`: codec `r2`. -/
def execSextH (s : State) : Result := emit .sextH .r2 s

/-- R3016 `max`: codec `r`. -/
def execMax (s : State) : Result := emit .max .r s

/-- R3017 `maxu`: codec `r`. -/
def execMaxu (s : State) : Result := emit .maxu .r s

/-- R3018 `min`: codec `r`. -/
def execMin (s : State) : Result := emit .min .r s

/-- R3019 `minu`: codec `r`. -/
def execMinu (s : State) : Result := emit .minu .r s

/-- R3020 `rol`: codec `r`. -/
def execRol (s : State) : Result := emit .rol .r s

/-- R3021 `ror`: codec `r`. -/
def execRor (s : State) : Result := emit .ror .r s

/-- R3022 `rori`: codec `i_sh`. -/
def execRori (s : State) : Result := emit .rori .i_sh s

/-- R3023 `orc.b`: codec `r2`. -/
def execOrcB (s : State) : Result := emit .orcB .r2 s

/-- R3024 `rev8`: codec `r2`. -/
def execRev8 (s : State) : Result := emit .rev8 .r2 s

/-- R3025 `zext.h`: codec `r2`. -/
def execZextH (s : State) : Result := emit .zextH .r2 s

/-- R3026 `clzw`: codec `r2`. -/
def execClzw (s : State) : Result := emit .clzw .r2 s

/-- R3027 `ctzw`: codec `r2`. -/
def execCtzw (s : State) : Result := emit .ctzw .r2 s

/-- R3028 `cpopw`: codec `r2`. -/
def execCpopw (s : State) : Result := emit .cpopw .r2 s

/-- R3029 `rolw`: codec `r`. -/
def execRolw (s : State) : Result := emit .rolw .r s

/-- R3030 `rorw`: codec `r`. -/
def execRorw (s : State) : Result := emit .rorw .r s

/-- R3031 `roriw`: codec `i_sh5`. -/
def execRoriw (s : State) : Result := emit .roriw .i_sh5 s

/-- R3032 `clmul`: codec `r`. -/
def execClmul (s : State) : Result := emit .clmul .r s

/-- R3033 `clmulr`: codec `r`. -/
def execClmulr (s : State) : Result := emit .clmulr .r s

/-- R3034 `clmulh`: codec `r`. -/
def execClmulh (s : State) : Result := emit .clmulh .r s

/-- R3035 `bclr`: codec `r`. -/
def execBclr (s : State) : Result := emit .bclr .r s

/-- R3036 `bext`: codec `r`. -/
def execBext (s : State) : Result := emit .bext .r s

/-- R3037 `binv`: codec `r`. -/
def execBinv (s : State) : Result := emit .binv .r s

/-- R3038 `bset`: codec `r`. -/
def execBset (s : State) : Result := emit .bset .r s

/-- R3039 `bclri`: codec `i_sh`. -/
def execBclri (s : State) : Result := emit .bclri .i_sh s

/-- R3040 `bexti`: codec `i_sh`. -/
def execBexti (s : State) : Result := emit .bexti .i_sh s

/-- R3041 `binvi`: codec `i_sh`. -/
def execBinvi (s : State) : Result := emit .binvi .i_sh s

/-- R3042 `bseti`: codec `i_sh`. -/
def execBseti (s : State) : Result := emit .bseti .i_sh s

/-- R3043 `pack`: codec `r`. -/
def execPack (s : State) : Result := emit .pack .r s

/-- R3044 `packh`: codec `r`. -/
def execPackh (s : State) : Result := emit .packh .r s

/-- R3045 `packw`: codec `r`. -/
def execPackw (s : State) : Result := emit .packw .r s

/-- R3046 `brev8`: codec `r2`. -/
def execBrev8 (s : State) : Result := emit .brev8 .r2 s

/-- R3047 `zip`: codec `r2`. -/
def execZip (s : State) : Result := emit .zip .r2 s

/-- R3048 `unzip`: codec `r2`. -/
def execUnzip (s : State) : Result := emit .unzip .r2 s

/-- R3049 `xperm4`: codec `r`. -/
def execXperm4 (s : State) : Result := emit .xperm4 .r s

/-- R3050 `xperm8`: codec `r`. -/
def execXperm8 (s : State) : Result := emit .xperm8 .r s

/-- R3051 `czero.eqz`: codec `r`. -/
def execCzeroEqz (s : State) : Result := emit .czeroEqz .r s

/-- R3052 `czero.nez`: codec `r`. -/
def execCzeroNez (s : State) : Result := emit .czeroNez .r s

/-- R3053 `aes32esi`: codec `k_bs`. -/
def execAes32esi (s : State) : Result := emit .aes32esi .k_bs s

/-- R3054 `aes32esmi`: codec `k_bs`. -/
def execAes32esmi (s : State) : Result := emit .aes32esmi .k_bs s

/-- R3055 `aes32dsi`: codec `k_bs`. -/
def execAes32dsi (s : State) : Result := emit .aes32dsi .k_bs s

/-- R3056 `aes32dsmi`: codec `k_bs`. -/
def execAes32dsmi (s : State) : Result := emit .aes32dsmi .k_bs s

/-- R3057 `sm4ed`: codec `k_bs`. -/
def execSm4ed (s : State) : Result := emit .sm4ed .k_bs s

/-- R3058 `sm4ks`: codec `k_bs`. -/
def execSm4ks (s : State) : Result := emit .sm4ks .k_bs s

/-- R3059 `aes64es`: codec `r`. -/
def execAes64es (s : State) : Result := emit .aes64es .r s

/-- R3060 `aes64esm`: codec `r`. -/
def execAes64esm (s : State) : Result := emit .aes64esm .r s

/-- R3061 `aes64ds`: codec `r`. -/
def execAes64ds (s : State) : Result := emit .aes64ds .r s

/-- R3062 `aes64dsm`: codec `r`. -/
def execAes64dsm (s : State) : Result := emit .aes64dsm .r s

/-- R3063 `aes64ks2`: codec `r`. -/
def execAes64ks2 (s : State) : Result := emit .aes64ks2 .r s

/-- R3064 `aes64im`: codec `r2`. -/
def execAes64im (s : State) : Result := emit .aes64im .r2 s

/-- R3065 `aes64ks1i`: codec `k_rnum`. -/
def execAes64ks1i (s : State) : Result := emit .aes64ks1i .k_rnum s

/-- R3066 `sha256sum0`: codec `r2`. -/
def execSha256sum0 (s : State) : Result := emit .sha256sum0 .r2 s

/-- R3067 `sha256sum1`: codec `r2`. -/
def execSha256sum1 (s : State) : Result := emit .sha256sum1 .r2 s

/-- R3068 `sha256sig0`: codec `r2`. -/
def execSha256sig0 (s : State) : Result := emit .sha256sig0 .r2 s

/-- R3069 `sha256sig1`: codec `r2`. -/
def execSha256sig1 (s : State) : Result := emit .sha256sig1 .r2 s

/-- R3070 `sha512sum0`: codec `r2`. -/
def execSha512sum0 (s : State) : Result := emit .sha512sum0 .r2 s

/-- R3071 `sha512sum1`: codec `r2`. -/
def execSha512sum1 (s : State) : Result := emit .sha512sum1 .r2 s

/-- R3072 `sha512sig0`: codec `r2`. -/
def execSha512sig0 (s : State) : Result := emit .sha512sig0 .r2 s

/-- R3073 `sha512sig1`: codec `r2`. -/
def execSha512sig1 (s : State) : Result := emit .sha512sig1 .r2 s

/-- R3074 `sha512sum0r`: codec `r`. -/
def execSha512sum0r (s : State) : Result := emit .sha512sum0r .r s

/-- R3075 `sha512sum1r`: codec `r`. -/
def execSha512sum1r (s : State) : Result := emit .sha512sum1r .r s

/-- R3076 `sha512sig0l`: codec `r`. -/
def execSha512sig0l (s : State) : Result := emit .sha512sig0l .r s

/-- R3077 `sha512sig1l`: codec `r`. -/
def execSha512sig1l (s : State) : Result := emit .sha512sig1l .r s

/-- R3078 `sha512sig0h`: codec `r`. -/
def execSha512sig0h (s : State) : Result := emit .sha512sig0h .r s

/-- R3079 `sha512sig1h`: codec `r`. -/
def execSha512sig1h (s : State) : Result := emit .sha512sig1h .r s

/-- R3080 `sm3p0`: codec `r2`. -/
def execSm3p0 (s : State) : Result := emit .sm3p0 .r2 s

/-- R3081 `sm3p1`: codec `r2`. -/
def execSm3p1 (s : State) : Result := emit .sm3p1 .r2 s

end Sys2Proof.Machine
end

