-- ==== Sys2Proof/Machine/Compressed.lean ====
section
/-! DEFINITION. Machine/Compressed.lean: the meanings of the compressed opcodes (44_compressed): each is the decode result the
block produces for the opcode (00_scope.md R7, 40_pipeline.md R200). -/

namespace Sys2Proof.Machine

/-- R4000 `c.addi4spn`: codec `ciw_4spn`; expands to `addi` at XLEN 32, 64, 128; a zero immediate is illegal (R209).
-/
def execCAddi4spn (s : State) : Result := emit .cAddi4spn .ciw_4spn s

/-- R4001 `c.fld`: codec `cl_ld`; expands to `fld` at XLEN 32, 64. -/
def execCFld (s : State) : Result := emit .cFld .cl_ld s

/-- R4002 `c.lq`: codec `cl_lq`; expands to `lq` at XLEN 128. -/
def execCLq (s : State) : Result := emit .cLq .cl_lq s

/-- R4003 `c.lw`: codec `cl_lw`; expands to `lw` at XLEN 32, 64, 128. -/
def execCLw (s : State) : Result := emit .cLw .cl_lw s

/-- R4004 `c.flw`: codec `cl_lw`; expands to `flw` at XLEN 32. -/
def execCFlw (s : State) : Result := emit .cFlw .cl_lw s

/-- R4005 `c.ld`: codec `cl_ld`; expands to `ld` at XLEN 64, 128. -/
def execCLd (s : State) : Result := emit .cLd .cl_ld s

/-- R4006 `c.lbu`: codec `zcb_lb`; no expansion. -/
def execCLbu (s : State) : Result := emit .cLbu .zcb_lb s

/-- R4007 `c.lhu`: codec `zcb_lh`; no expansion. -/
def execCLhu (s : State) : Result := emit .cLhu .zcb_lh s

/-- R4008 `c.lh`: codec `zcb_lh`; no expansion. -/
def execCLh (s : State) : Result := emit .cLh .zcb_lh s

/-- R4009 `c.sb`: codec `zcb_sb`; no expansion. -/
def execCSb (s : State) : Result := emit .cSb .zcb_sb s

/-- R4010 `c.sh`: codec `zcb_sh`; no expansion. -/
def execCSh (s : State) : Result := emit .cSh .zcb_sh s

/-- R4011 `c.fsd`: codec `cs_sd`; expands to `fsd` at XLEN 32, 64. -/
def execCFsd (s : State) : Result := emit .cFsd .cs_sd s

/-- R4012 `c.sq`: codec `cs_sq`; expands to `sq` at XLEN 128. -/
def execCSq (s : State) : Result := emit .cSq .cs_sq s

/-- R4013 `c.sw`: codec `cs_sw`; expands to `sw` at XLEN 32, 64, 128. -/
def execCSw (s : State) : Result := emit .cSw .cs_sw s

/-- R4014 `c.fsw`: codec `cs_sw`; expands to `fsw` at XLEN 32. -/
def execCFsw (s : State) : Result := emit .cFsw .cs_sw s

/-- R4015 `c.sd`: codec `cs_sd`; expands to `sd` at XLEN 64, 128. -/
def execCSd (s : State) : Result := emit .cSd .cs_sd s

/-- R4016 `c.nop`: codec `ci_none`; expands to `addi` at XLEN 32, 64, 128. -/
def execCNop (s : State) : Result := emit .cNop .ci_none s

/-- R4017 `c.addi`: codec `ci`; expands to `addi` at XLEN 32, 64, 128; a zero immediate is illegal (R209). -/
def execCAddi (s : State) : Result := emit .cAddi .ci s

/-- R4018 `c.jal`: codec `cj_jal`; expands to `jal` at XLEN 32. -/
def execCJal (s : State) : Result := emit .cJal .cj_jal s

/-- R4019 `c.addiw`: codec `ci`; expands to `addiw` at XLEN 64, 128. -/
def execCAddiw (s : State) : Result := emit .cAddiw .ci s

/-- R4020 `c.li`: codec `ci_li`; expands to `addi` at XLEN 32, 64, 128. -/
def execCLi (s : State) : Result := emit .cLi .ci_li s

/-- R4021 `c.addi16sp`: codec `ci_16sp`; expands to `addi` at XLEN 32, 64, 128; a zero immediate is illegal (R209). -/
def execCAddi16sp (s : State) : Result := emit .cAddi16sp .ci_16sp s

/-- R4022 `c.lui`: codec `ci_lui`; expands to `lui` at XLEN 32, 64, 128; a zero immediate is illegal (R209). -/
def execCLui (s : State) : Result := emit .cLui .ci_lui s

/-- R4023 `c.srli`: codec `cb_sh`; expands to `srli` at XLEN 32, 64, 128; a zero immediate is illegal (R209). -/
def execCSrli (s : State) : Result := emit .cSrli .cb_sh s

/-- R4024 `c.srai`: codec `cb_sh`; expands to `srai` at XLEN 32, 64, 128; a zero immediate is illegal (R209). -/
def execCSrai (s : State) : Result := emit .cSrai .cb_sh s

/-- R4025 `c.andi`: codec `cb_imm`; expands to `andi` at XLEN 32, 64, 128. -/
def execCAndi (s : State) : Result := emit .cAndi .cb_imm s

/-- R4026 `c.sub`: codec `cs`; expands to `sub` at XLEN 32, 64, 128. -/
def execCSub (s : State) : Result := emit .cSub .cs s

/-- R4027 `c.xor`: codec `cs`; expands to `xor` at XLEN 32, 64, 128. -/
def execCXor (s : State) : Result := emit .cXor .cs s

/-- R4028 `c.or`: codec `cs`; expands to `or` at XLEN 32, 64, 128. -/
def execCOr (s : State) : Result := emit .cOr .cs s

/-- R4029 `c.and`: codec `cs`; expands to `and` at XLEN 32, 64, 128. -/
def execCAnd (s : State) : Result := emit .cAnd .cs s

/-- R4030 `c.subw`: codec `cs`; expands to `subw` at XLEN 64, 128. -/
def execCSubw (s : State) : Result := emit .cSubw .cs s

/-- R4031 `c.addw`: codec `cs`; expands to `addw` at XLEN 64, 128. -/
def execCAddw (s : State) : Result := emit .cAddw .cs s

/-- R4032 `c.mul`: codec `cs`; no expansion. -/
def execCMul (s : State) : Result := emit .cMul .cs s

/-- R4033 `c.zext.b`: codec `zcb_ext`; no expansion. -/
def execCZextB (s : State) : Result := emit .cZextB .zcb_ext s

/-- R4034 `c.sext.b`: codec `zcb_ext`; no expansion. -/
def execCSextB (s : State) : Result := emit .cSextB .zcb_ext s

/-- R4035 `c.zext.h`: codec `zcb_ext`; no expansion. -/
def execCZextH (s : State) : Result := emit .cZextH .zcb_ext s

/-- R4036 `c.sext.h`: codec `zcb_ext`; no expansion. -/
def execCSextH (s : State) : Result := emit .cSextH .zcb_ext s

/-- R4037 `c.zext.w`: codec `zcb_ext`; no expansion. -/
def execCZextW (s : State) : Result := emit .cZextW .zcb_ext s

/-- R4038 `c.not`: codec `zcb_ext`; no expansion. -/
def execCNot (s : State) : Result := emit .cNot .zcb_ext s

/-- R4039 `c.j`: codec `cj`; expands to `jal` at XLEN 32, 64, 128. -/
def execCJ (s : State) : Result := emit .cJ .cj s

/-- R4040 `c.beqz`: codec `cb`; expands to `beq` at XLEN 32, 64, 128. -/
def execCBeqz (s : State) : Result := emit .cBeqz .cb s

/-- R4041 `c.bnez`: codec `cb`; expands to `bne` at XLEN 32, 64, 128. -/
def execCBnez (s : State) : Result := emit .cBnez .cb s

/-- R4042 `c.slli`: codec `ci_sh`; expands to `slli` at XLEN 32, 64, 128; a zero immediate is illegal (R209). -/
def execCSlli (s : State) : Result := emit .cSlli .ci_sh s

/-- R4043 `c.fldsp`: codec `ci_ldsp`; expands to `fld` at XLEN 32, 64. -/
def execCFldsp (s : State) : Result := emit .cFldsp .ci_ldsp s

/-- R4044 `c.lqsp`: codec `ci_lqsp`; expands to `lq` at XLEN 128. -/
def execCLqsp (s : State) : Result := emit .cLqsp .ci_lqsp s

/-- R4045 `c.lwsp`: codec `ci_lwsp`; expands to `lw` at XLEN 32, 64, 128. -/
def execCLwsp (s : State) : Result := emit .cLwsp .ci_lwsp s

/-- R4046 `c.flwsp`: codec `ci_lwsp`; expands to `flw` at XLEN 32. -/
def execCFlwsp (s : State) : Result := emit .cFlwsp .ci_lwsp s

/-- R4047 `c.ldsp`: codec `ci_ldsp`; expands to `ld` at XLEN 64, 128. -/
def execCLdsp (s : State) : Result := emit .cLdsp .ci_ldsp s

/-- R4048 `c.jr`: codec `cr_jr`; expands to `jalr` at XLEN 32, 64, 128. -/
def execCJr (s : State) : Result := emit .cJr .cr_jr s

/-- R4049 `c.mv`: codec `cr_mv`; expands to `addi` at XLEN 32, 64, 128. -/
def execCMv (s : State) : Result := emit .cMv .cr_mv s

/-- R4050 `c.ebreak`: codec `ci_none`; expands to `ebreak` at XLEN 32, 64, 128. -/
def execCEbreak (s : State) : Result := emit .cEbreak .ci_none s

/-- R4051 `c.jalr`: codec `cr_jalr`; expands to `jalr` at XLEN 32, 64, 128. -/
def execCJalr (s : State) : Result := emit .cJalr .cr_jalr s

/-- R4052 `c.add`: codec `cr`; expands to `add` at XLEN 32, 64, 128. -/
def execCAdd (s : State) : Result := emit .cAdd .cr s

/-- R4053 `c.fsdsp`: codec `css_sdsp`; expands to `fsd` at XLEN 32, 64. -/
def execCFsdsp (s : State) : Result := emit .cFsdsp .css_sdsp s

/-- R4054 `c.sqsp`: codec `css_sqsp`; expands to `sq` at XLEN 128. -/
def execCSqsp (s : State) : Result := emit .cSqsp .css_sqsp s

/-- R4055 `c.swsp`: codec `css_swsp`; expands to `sw` at XLEN 32, 64, 128. -/
def execCSwsp (s : State) : Result := emit .cSwsp .css_swsp s

/-- R4056 `c.fswsp`: codec `css_swsp`; expands to `fsw` at XLEN 32. -/
def execCFswsp (s : State) : Result := emit .cFswsp .css_swsp s

/-- R4057 `c.sdsp`: codec `css_sdsp`; expands to `sd` at XLEN 64, 128. -/
def execCSdsp (s : State) : Result := emit .cSdsp .css_sdsp s

/-- R4058 `cm.push`: codec `zcmp_push`; no expansion. -/
def execCmPush (s : State) : Result := emit .cmPush .zcmp_push s

/-- R4059 `cm.pop`: codec `zcmp_pop`; no expansion. -/
def execCmPop (s : State) : Result := emit .cmPop .zcmp_pop s

/-- R4060 `cm.popretz`: codec `zcmp_pop`; no expansion. -/
def execCmPopretz (s : State) : Result := emit .cmPopretz .zcmp_pop s

/-- R4061 `cm.popret`: codec `zcmp_pop`; no expansion. -/
def execCmPopret (s : State) : Result := emit .cmPopret .zcmp_pop s

/-- R4062 `cm.mvsa01`: codec `zcmp_mv`; no expansion. -/
def execCmMvsa01 (s : State) : Result := emit .cmMvsa01 .zcmp_mv s

/-- R4063 `cm.mva01s`: codec `zcmp_mv`; no expansion. -/
def execCmMva01s (s : State) : Result := emit .cmMva01s .zcmp_mv s

/-- R4064 `cm.jt`: codec `zcmt_jt`; no expansion. -/
def execCmJt (s : State) : Result := emit .cmJt .zcmt_jt s

/-- R4065 `cm.jalt`: codec `zcmt_jt`; no expansion. -/
def execCmJalt (s : State) : Result := emit .cmJalt .zcmt_jt s

end Sys2Proof.Machine
end

