-- ==== Sys2Proof/Machine/Float.lean ====
section
/-! DEFINITION. Machine/Float.lean: the meanings of the scalar floating-point opcodes (42_float): each is the decode result the
block produces for the opcode (00_scope.md R7, 40_pipeline.md R200). -/

namespace Sys2Proof.Machine

/-- R2000 `flh`: codec `i`. -/
def execFlh (s : State) : Result := emit .flh .i s

/-- R2001 `flw`: codec `i`. -/
def execFlw (s : State) : Result := emit .flw .i s

/-- R2002 `fld`: codec `i`. -/
def execFld (s : State) : Result := emit .fld .i s

/-- R2003 `flq`: codec `i`. -/
def execFlq (s : State) : Result := emit .flq .i s

/-- R2004 `fsh`: codec `s`. -/
def execFsh (s : State) : Result := emit .fsh .s s

/-- R2005 `fsw`: codec `s`. -/
def execFsw (s : State) : Result := emit .fsw .s s

/-- R2006 `fsd`: codec `s`. -/
def execFsd (s : State) : Result := emit .fsd .s s

/-- R2007 `fsq`: codec `s`. -/
def execFsq (s : State) : Result := emit .fsq .s s

/-- R2008 `fmadd.s`: codec `r4_m`. -/
def execFmaddS (s : State) : Result := emit .fmaddS .r4_m s

/-- R2009 `fmsub.s`: codec `r4_m`. -/
def execFmsubS (s : State) : Result := emit .fmsubS .r4_m s

/-- R2010 `fnmsub.s`: codec `r4_m`. -/
def execFnmsubS (s : State) : Result := emit .fnmsubS .r4_m s

/-- R2011 `fnmadd.s`: codec `r4_m`. -/
def execFnmaddS (s : State) : Result := emit .fnmaddS .r4_m s

/-- R2012 `fadd.s`: codec `r_m`. -/
def execFaddS (s : State) : Result := emit .faddS .r_m s

/-- R2013 `fsub.s`: codec `r_m`. -/
def execFsubS (s : State) : Result := emit .fsubS .r_m s

/-- R2014 `fmul.s`: codec `r_m`. -/
def execFmulS (s : State) : Result := emit .fmulS .r_m s

/-- R2015 `fdiv.s`: codec `r_m`. -/
def execFdivS (s : State) : Result := emit .fdivS .r_m s

/-- R2016 `fsqrt.s`: codec `r2_m`. -/
def execFsqrtS (s : State) : Result := emit .fsqrtS .r2_m s

/-- R2017 `fsgnj.s`: codec `r`; lifts to `fmv.s`. -/
def execFsgnjS (s : State) : Result := emit .fsgnjS .r s

/-- R2018 `fsgnjn.s`: codec `r`; lifts to `fneg.s`. -/
def execFsgnjnS (s : State) : Result := emit .fsgnjnS .r s

/-- R2019 `fsgnjx.s`: codec `r`; lifts to `fabs.s`. -/
def execFsgnjxS (s : State) : Result := emit .fsgnjxS .r s

/-- R2020 `fmin.s`: codec `r`. -/
def execFminS (s : State) : Result := emit .fminS .r s

/-- R2021 `fmax.s`: codec `r`. -/
def execFmaxS (s : State) : Result := emit .fmaxS .r s

/-- R2022 `fcvt.s.d`: codec `r2_m`. -/
def execFcvtSD (s : State) : Result := emit .fcvtSD .r2_m s

/-- R2023 `fcvt.s.h`: codec `r2_m`. -/
def execFcvtSH (s : State) : Result := emit .fcvtSH .r2_m s

/-- R2024 `fcvt.s.q`: codec `r2_m`. -/
def execFcvtSQ (s : State) : Result := emit .fcvtSQ .r2_m s

/-- R2025 `feq.s`: codec `r`. -/
def execFeqS (s : State) : Result := emit .feqS .r s

/-- R2026 `flt.s`: codec `r`. -/
def execFltS (s : State) : Result := emit .fltS .r s

/-- R2027 `fle.s`: codec `r`. -/
def execFleS (s : State) : Result := emit .fleS .r s

/-- R2028 `fclass.s`: codec `r2`. -/
def execFclassS (s : State) : Result := emit .fclassS .r2 s

/-- R2029 `fcvt.w.s`: codec `r2_m`. -/
def execFcvtWS (s : State) : Result := emit .fcvtWS .r2_m s

/-- R2030 `fcvt.s.w`: codec `r2_m`. -/
def execFcvtSW (s : State) : Result := emit .fcvtSW .r2_m s

/-- R2031 `fcvt.wu.s`: codec `r2_m`. -/
def execFcvtWuS (s : State) : Result := emit .fcvtWuS .r2_m s

/-- R2032 `fcvt.s.wu`: codec `r2_m`. -/
def execFcvtSWu (s : State) : Result := emit .fcvtSWu .r2_m s

/-- R2033 `fcvt.l.s`: codec `r2_m`. -/
def execFcvtLS (s : State) : Result := emit .fcvtLS .r2_m s

/-- R2034 `fcvt.s.l`: codec `r2_m`. -/
def execFcvtSL (s : State) : Result := emit .fcvtSL .r2_m s

/-- R2035 `fcvt.lu.s`: codec `r2_m`. -/
def execFcvtLuS (s : State) : Result := emit .fcvtLuS .r2_m s

/-- R2036 `fcvt.s.lu`: codec `r2_m`. -/
def execFcvtSLu (s : State) : Result := emit .fcvtSLu .r2_m s

/-- R2037 `fli.s`: codec `fli`. -/
def execFliS (s : State) : Result := emit .fliS .fli s

/-- R2038 `fminm.s`: codec `r`. -/
def execFminmS (s : State) : Result := emit .fminmS .r s

/-- R2039 `fmaxm.s`: codec `r`. -/
def execFmaxmS (s : State) : Result := emit .fmaxmS .r s

/-- R2040 `fround.s`: codec `r2_m`. -/
def execFroundS (s : State) : Result := emit .froundS .r2_m s

/-- R2041 `froundnx.s`: codec `r2_m`. -/
def execFroundnxS (s : State) : Result := emit .froundnxS .r2_m s

/-- R2042 `fleq.s`: codec `r`. -/
def execFleqS (s : State) : Result := emit .fleqS .r s

/-- R2043 `fltq.s`: codec `r`. -/
def execFltqS (s : State) : Result := emit .fltqS .r s

/-- R2044 `fmadd.d`: codec `r4_m`. -/
def execFmaddD (s : State) : Result := emit .fmaddD .r4_m s

/-- R2045 `fmsub.d`: codec `r4_m`. -/
def execFmsubD (s : State) : Result := emit .fmsubD .r4_m s

/-- R2046 `fnmsub.d`: codec `r4_m`. -/
def execFnmsubD (s : State) : Result := emit .fnmsubD .r4_m s

/-- R2047 `fnmadd.d`: codec `r4_m`. -/
def execFnmaddD (s : State) : Result := emit .fnmaddD .r4_m s

/-- R2048 `fadd.d`: codec `r_m`. -/
def execFaddD (s : State) : Result := emit .faddD .r_m s

/-- R2049 `fsub.d`: codec `r_m`. -/
def execFsubD (s : State) : Result := emit .fsubD .r_m s

/-- R2050 `fmul.d`: codec `r_m`. -/
def execFmulD (s : State) : Result := emit .fmulD .r_m s

/-- R2051 `fdiv.d`: codec `r_m`. -/
def execFdivD (s : State) : Result := emit .fdivD .r_m s

/-- R2052 `fsqrt.d`: codec `r2_m`. -/
def execFsqrtD (s : State) : Result := emit .fsqrtD .r2_m s

/-- R2053 `fsgnj.d`: codec `r`; lifts to `fmv.d`. -/
def execFsgnjD (s : State) : Result := emit .fsgnjD .r s

/-- R2054 `fsgnjn.d`: codec `r`; lifts to `fneg.d`. -/
def execFsgnjnD (s : State) : Result := emit .fsgnjnD .r s

/-- R2055 `fsgnjx.d`: codec `r`; lifts to `fabs.d`. -/
def execFsgnjxD (s : State) : Result := emit .fsgnjxD .r s

/-- R2056 `fmin.d`: codec `r`. -/
def execFminD (s : State) : Result := emit .fminD .r s

/-- R2057 `fmax.d`: codec `r`. -/
def execFmaxD (s : State) : Result := emit .fmaxD .r s

/-- R2058 `fcvt.d.s`: codec `r2_m`. -/
def execFcvtDS (s : State) : Result := emit .fcvtDS .r2_m s

/-- R2059 `fcvt.d.h`: codec `r2_m`. -/
def execFcvtDH (s : State) : Result := emit .fcvtDH .r2_m s

/-- R2060 `fcvt.d.q`: codec `r2_m`. -/
def execFcvtDQ (s : State) : Result := emit .fcvtDQ .r2_m s

/-- R2061 `feq.d`: codec `r`. -/
def execFeqD (s : State) : Result := emit .feqD .r s

/-- R2062 `flt.d`: codec `r`. -/
def execFltD (s : State) : Result := emit .fltD .r s

/-- R2063 `fle.d`: codec `r`. -/
def execFleD (s : State) : Result := emit .fleD .r s

/-- R2064 `fclass.d`: codec `r2`. -/
def execFclassD (s : State) : Result := emit .fclassD .r2 s

/-- R2065 `fcvt.w.d`: codec `r2_m`. -/
def execFcvtWD (s : State) : Result := emit .fcvtWD .r2_m s

/-- R2066 `fcvt.d.w`: codec `r2_m`. -/
def execFcvtDW (s : State) : Result := emit .fcvtDW .r2_m s

/-- R2067 `fcvt.wu.d`: codec `r2_m`. -/
def execFcvtWuD (s : State) : Result := emit .fcvtWuD .r2_m s

/-- R2068 `fcvt.d.wu`: codec `r2_m`. -/
def execFcvtDWu (s : State) : Result := emit .fcvtDWu .r2_m s

/-- R2069 `fcvt.l.d`: codec `r2_m`. -/
def execFcvtLD (s : State) : Result := emit .fcvtLD .r2_m s

/-- R2070 `fcvt.d.l`: codec `r2_m`. -/
def execFcvtDL (s : State) : Result := emit .fcvtDL .r2_m s

/-- R2071 `fcvt.lu.d`: codec `r2_m`. -/
def execFcvtLuD (s : State) : Result := emit .fcvtLuD .r2_m s

/-- R2072 `fcvt.d.lu`: codec `r2_m`. -/
def execFcvtDLu (s : State) : Result := emit .fcvtDLu .r2_m s

/-- R2073 `fli.d`: codec `fli`. -/
def execFliD (s : State) : Result := emit .fliD .fli s

/-- R2074 `fminm.d`: codec `r`. -/
def execFminmD (s : State) : Result := emit .fminmD .r s

/-- R2075 `fmaxm.d`: codec `r`. -/
def execFmaxmD (s : State) : Result := emit .fmaxmD .r s

/-- R2076 `fround.d`: codec `r2_m`. -/
def execFroundD (s : State) : Result := emit .froundD .r2_m s

/-- R2077 `froundnx.d`: codec `r2_m`. -/
def execFroundnxD (s : State) : Result := emit .froundnxD .r2_m s

/-- R2078 `fleq.d`: codec `r`. -/
def execFleqD (s : State) : Result := emit .fleqD .r s

/-- R2079 `fltq.d`: codec `r`. -/
def execFltqD (s : State) : Result := emit .fltqD .r s

/-- R2080 `fmadd.h`: codec `r4_m`. -/
def execFmaddH (s : State) : Result := emit .fmaddH .r4_m s

/-- R2081 `fmsub.h`: codec `r4_m`. -/
def execFmsubH (s : State) : Result := emit .fmsubH .r4_m s

/-- R2082 `fnmsub.h`: codec `r4_m`. -/
def execFnmsubH (s : State) : Result := emit .fnmsubH .r4_m s

/-- R2083 `fnmadd.h`: codec `r4_m`. -/
def execFnmaddH (s : State) : Result := emit .fnmaddH .r4_m s

/-- R2084 `fadd.h`: codec `r_m`. -/
def execFaddH (s : State) : Result := emit .faddH .r_m s

/-- R2085 `fsub.h`: codec `r_m`. -/
def execFsubH (s : State) : Result := emit .fsubH .r_m s

/-- R2086 `fmul.h`: codec `r_m`. -/
def execFmulH (s : State) : Result := emit .fmulH .r_m s

/-- R2087 `fdiv.h`: codec `r_m`. -/
def execFdivH (s : State) : Result := emit .fdivH .r_m s

/-- R2088 `fsqrt.h`: codec `r2_m`. -/
def execFsqrtH (s : State) : Result := emit .fsqrtH .r2_m s

/-- R2089 `fsgnj.h`: codec `r`; lifts to `fmv.h`. -/
def execFsgnjH (s : State) : Result := emit .fsgnjH .r s

/-- R2090 `fsgnjn.h`: codec `r`; lifts to `fneg.h`. -/
def execFsgnjnH (s : State) : Result := emit .fsgnjnH .r s

/-- R2091 `fsgnjx.h`: codec `r`; lifts to `fabs.h`. -/
def execFsgnjxH (s : State) : Result := emit .fsgnjxH .r s

/-- R2092 `fmin.h`: codec `r`. -/
def execFminH (s : State) : Result := emit .fminH .r s

/-- R2093 `fmax.h`: codec `r`. -/
def execFmaxH (s : State) : Result := emit .fmaxH .r s

/-- R2094 `fcvt.h.s`: codec `r2_m`. -/
def execFcvtHS (s : State) : Result := emit .fcvtHS .r2_m s

/-- R2095 `fcvt.h.d`: codec `r2_m`. -/
def execFcvtHD (s : State) : Result := emit .fcvtHD .r2_m s

/-- R2096 `fcvt.h.q`: codec `r2_m`. -/
def execFcvtHQ (s : State) : Result := emit .fcvtHQ .r2_m s

/-- R2097 `feq.h`: codec `r`. -/
def execFeqH (s : State) : Result := emit .feqH .r s

/-- R2098 `flt.h`: codec `r`. -/
def execFltH (s : State) : Result := emit .fltH .r s

/-- R2099 `fle.h`: codec `r`. -/
def execFleH (s : State) : Result := emit .fleH .r s

/-- R2100 `fclass.h`: codec `r2`. -/
def execFclassH (s : State) : Result := emit .fclassH .r2 s

/-- R2101 `fcvt.w.h`: codec `r2_m`. -/
def execFcvtWH (s : State) : Result := emit .fcvtWH .r2_m s

/-- R2102 `fcvt.h.w`: codec `r2_m`. -/
def execFcvtHW (s : State) : Result := emit .fcvtHW .r2_m s

/-- R2103 `fcvt.wu.h`: codec `r2_m`. -/
def execFcvtWuH (s : State) : Result := emit .fcvtWuH .r2_m s

/-- R2104 `fcvt.h.wu`: codec `r2_m`. -/
def execFcvtHWu (s : State) : Result := emit .fcvtHWu .r2_m s

/-- R2105 `fcvt.l.h`: codec `r2_m`. -/
def execFcvtLH (s : State) : Result := emit .fcvtLH .r2_m s

/-- R2106 `fcvt.h.l`: codec `r2_m`. -/
def execFcvtHL (s : State) : Result := emit .fcvtHL .r2_m s

/-- R2107 `fcvt.lu.h`: codec `r2_m`. -/
def execFcvtLuH (s : State) : Result := emit .fcvtLuH .r2_m s

/-- R2108 `fcvt.h.lu`: codec `r2_m`. -/
def execFcvtHLu (s : State) : Result := emit .fcvtHLu .r2_m s

/-- R2109 `fli.h`: codec `fli`. -/
def execFliH (s : State) : Result := emit .fliH .fli s

/-- R2110 `fminm.h`: codec `r`. -/
def execFminmH (s : State) : Result := emit .fminmH .r s

/-- R2111 `fmaxm.h`: codec `r`. -/
def execFmaxmH (s : State) : Result := emit .fmaxmH .r s

/-- R2112 `fround.h`: codec `r2_m`. -/
def execFroundH (s : State) : Result := emit .froundH .r2_m s

/-- R2113 `froundnx.h`: codec `r2_m`. -/
def execFroundnxH (s : State) : Result := emit .froundnxH .r2_m s

/-- R2114 `fleq.h`: codec `r`. -/
def execFleqH (s : State) : Result := emit .fleqH .r s

/-- R2115 `fltq.h`: codec `r`. -/
def execFltqH (s : State) : Result := emit .fltqH .r s

/-- R2116 `fmadd.q`: codec `r4_m`. -/
def execFmaddQ (s : State) : Result := emit .fmaddQ .r4_m s

/-- R2117 `fmsub.q`: codec `r4_m`. -/
def execFmsubQ (s : State) : Result := emit .fmsubQ .r4_m s

/-- R2118 `fnmsub.q`: codec `r4_m`. -/
def execFnmsubQ (s : State) : Result := emit .fnmsubQ .r4_m s

/-- R2119 `fnmadd.q`: codec `r4_m`. -/
def execFnmaddQ (s : State) : Result := emit .fnmaddQ .r4_m s

/-- R2120 `fadd.q`: codec `r_m`. -/
def execFaddQ (s : State) : Result := emit .faddQ .r_m s

/-- R2121 `fsub.q`: codec `r_m`. -/
def execFsubQ (s : State) : Result := emit .fsubQ .r_m s

/-- R2122 `fmul.q`: codec `r_m`. -/
def execFmulQ (s : State) : Result := emit .fmulQ .r_m s

/-- R2123 `fdiv.q`: codec `r_m`. -/
def execFdivQ (s : State) : Result := emit .fdivQ .r_m s

/-- R2124 `fsqrt.q`: codec `r2_m`. -/
def execFsqrtQ (s : State) : Result := emit .fsqrtQ .r2_m s

/-- R2125 `fsgnj.q`: codec `r`; lifts to `fmv.q`. -/
def execFsgnjQ (s : State) : Result := emit .fsgnjQ .r s

/-- R2126 `fsgnjn.q`: codec `r`; lifts to `fneg.q`. -/
def execFsgnjnQ (s : State) : Result := emit .fsgnjnQ .r s

/-- R2127 `fsgnjx.q`: codec `r`; lifts to `fabs.q`. -/
def execFsgnjxQ (s : State) : Result := emit .fsgnjxQ .r s

/-- R2128 `fmin.q`: codec `r`. -/
def execFminQ (s : State) : Result := emit .fminQ .r s

/-- R2129 `fmax.q`: codec `r`. -/
def execFmaxQ (s : State) : Result := emit .fmaxQ .r s

/-- R2130 `fcvt.q.s`: codec `r2_m`. -/
def execFcvtQS (s : State) : Result := emit .fcvtQS .r2_m s

/-- R2131 `fcvt.q.d`: codec `r2_m`. -/
def execFcvtQD (s : State) : Result := emit .fcvtQD .r2_m s

/-- R2132 `fcvt.q.h`: codec `r2_m`. -/
def execFcvtQH (s : State) : Result := emit .fcvtQH .r2_m s

/-- R2133 `feq.q`: codec `r`. -/
def execFeqQ (s : State) : Result := emit .feqQ .r s

/-- R2134 `flt.q`: codec `r`. -/
def execFltQ (s : State) : Result := emit .fltQ .r s

/-- R2135 `fle.q`: codec `r`. -/
def execFleQ (s : State) : Result := emit .fleQ .r s

/-- R2136 `fclass.q`: codec `r2`. -/
def execFclassQ (s : State) : Result := emit .fclassQ .r2 s

/-- R2137 `fcvt.w.q`: codec `r2_m`. -/
def execFcvtWQ (s : State) : Result := emit .fcvtWQ .r2_m s

/-- R2138 `fcvt.q.w`: codec `r2_m`. -/
def execFcvtQW (s : State) : Result := emit .fcvtQW .r2_m s

/-- R2139 `fcvt.wu.q`: codec `r2_m`. -/
def execFcvtWuQ (s : State) : Result := emit .fcvtWuQ .r2_m s

/-- R2140 `fcvt.q.wu`: codec `r2_m`. -/
def execFcvtQWu (s : State) : Result := emit .fcvtQWu .r2_m s

/-- R2141 `fcvt.l.q`: codec `r2_m`. -/
def execFcvtLQ (s : State) : Result := emit .fcvtLQ .r2_m s

/-- R2142 `fcvt.q.l`: codec `r2_m`. -/
def execFcvtQL (s : State) : Result := emit .fcvtQL .r2_m s

/-- R2143 `fcvt.lu.q`: codec `r2_m`. -/
def execFcvtLuQ (s : State) : Result := emit .fcvtLuQ .r2_m s

/-- R2144 `fcvt.q.lu`: codec `r2_m`. -/
def execFcvtQLu (s : State) : Result := emit .fcvtQLu .r2_m s

/-- R2145 `fli.q`: codec `fli`. -/
def execFliQ (s : State) : Result := emit .fliQ .fli s

/-- R2146 `fminm.q`: codec `r`. -/
def execFminmQ (s : State) : Result := emit .fminmQ .r s

/-- R2147 `fmaxm.q`: codec `r`. -/
def execFmaxmQ (s : State) : Result := emit .fmaxmQ .r s

/-- R2148 `fround.q`: codec `r2_m`. -/
def execFroundQ (s : State) : Result := emit .froundQ .r2_m s

/-- R2149 `froundnx.q`: codec `r2_m`. -/
def execFroundnxQ (s : State) : Result := emit .froundnxQ .r2_m s

/-- R2150 `fleq.q`: codec `r`. -/
def execFleqQ (s : State) : Result := emit .fleqQ .r s

/-- R2151 `fltq.q`: codec `r`. -/
def execFltqQ (s : State) : Result := emit .fltqQ .r s

/-- R2152 `fmv.x.w`: codec `r2`. -/
def execFmvXW (s : State) : Result := emit .fmvXW .r2 s

/-- R2153 `fmv.x.d`: codec `r2`. -/
def execFmvXD (s : State) : Result := emit .fmvXD .r2 s

/-- R2154 `fmv.x.h`: codec `r2`. -/
def execFmvXH (s : State) : Result := emit .fmvXH .r2 s

/-- R2155 `fmv.w.x`: codec `r2`. -/
def execFmvWX (s : State) : Result := emit .fmvWX .r2 s

/-- R2156 `fmv.d.x`: codec `r2`. -/
def execFmvDX (s : State) : Result := emit .fmvDX .r2 s

/-- R2157 `fmv.h.x`: codec `r2`. -/
def execFmvHX (s : State) : Result := emit .fmvHX .r2 s

/-- R2158 `fcvtmod.w.d`: codec `r2`. -/
def execFcvtmodWD (s : State) : Result := emit .fcvtmodWD .r2 s

/-- R2159 `fmvh.x.d`: codec `r2`. -/
def execFmvhXD (s : State) : Result := emit .fmvhXD .r2 s

/-- R2160 `fmvp.d.x`: codec `r`. -/
def execFmvpDX (s : State) : Result := emit .fmvpDX .r s

/-- R2161 `fmvh.x.q`: codec `r2`. -/
def execFmvhXQ (s : State) : Result := emit .fmvhXQ .r2 s

/-- R2162 `fmvp.q.x`: codec `r`. -/
def execFmvpQX (s : State) : Result := emit .fmvpQX .r s

end Sys2Proof.Machine
end

