-- ==== Sys2Proof/Machine/Integer.lean ====
section
/-! DEFINITION. Machine/Integer.lean: the meanings of the base integer, M, A, Zicsr, Zifencei, privileged, H and cache-block opcodes (41_base_integer): each is the decode result the
block produces for the opcode (00_scope.md R7, 40_pipeline.md R200). -/

namespace Sys2Proof.Machine

/-- R1000 `lui`: codec `u`. -/
def execLui (s : State) : Result := emit .lui .u s

/-- R1001 `auipc`: codec `u`. -/
def execAuipc (s : State) : Result := emit .auipc .u s

/-- R1002 `jal`: codec `j`; lifts to `j`, `jal.p`. -/
def execJal (s : State) : Result := emit .jal .j s

/-- R1003 `jalr`: codec `i`; lifts to `ret`, `jr`, `jalr.p`. -/
def execJalr (s : State) : Result := emit .jalr .i s

/-- R1004 `beq`: codec `b`; lifts to `beqz`. -/
def execBeq (s : State) : Result := emit .beq .b s

/-- R1005 `bne`: codec `b`; lifts to `bnez`. -/
def execBne (s : State) : Result := emit .bne .b s

/-- R1006 `blt`: codec `b`; lifts to `bltz`, `bgtz`. -/
def execBlt (s : State) : Result := emit .blt .b s

/-- R1007 `bge`: codec `b`; lifts to `blez`, `bgez`. -/
def execBge (s : State) : Result := emit .bge .b s

/-- R1008 `bltu`: codec `b`. -/
def execBltu (s : State) : Result := emit .bltu .b s

/-- R1009 `bgeu`: codec `b`. -/
def execBgeu (s : State) : Result := emit .bgeu .b s

/-- R1010 `lb`: codec `i`. -/
def execLb (s : State) : Result := emit .lb .i s

/-- R1011 `lh`: codec `i`. -/
def execLh (s : State) : Result := emit .lh .i s

/-- R1012 `lw`: codec `i`. -/
def execLw (s : State) : Result := emit .lw .i s

/-- R1013 `ld`: codec `i`. -/
def execLd (s : State) : Result := emit .ld .i s

/-- R1014 `lbu`: codec `i`. -/
def execLbu (s : State) : Result := emit .lbu .i s

/-- R1015 `lhu`: codec `i`. -/
def execLhu (s : State) : Result := emit .lhu .i s

/-- R1016 `lwu`: codec `i`. -/
def execLwu (s : State) : Result := emit .lwu .i s

/-- R1017 `ldu`: codec `i`. -/
def execLdu (s : State) : Result := emit .ldu .i s

/-- R1018 `sb`: codec `s`. -/
def execSb (s : State) : Result := emit .sb .s s

/-- R1019 `sh`: codec `s`. -/
def execSh (s : State) : Result := emit .sh .s s

/-- R1020 `sw`: codec `s`. -/
def execSw (s : State) : Result := emit .sw .s s

/-- R1021 `sd`: codec `s`. -/
def execSd (s : State) : Result := emit .sd .s s

/-- R1022 `sq`: codec `s`. -/
def execSq (s : State) : Result := emit .sq .s s

/-- R1023 `addi`: codec `i`; lifts to `nop`, `mv`, `li`. -/
def execAddi (s : State) : Result := emit .addi .i s

/-- R1024 `slti`: codec `i`. -/
def execSlti (s : State) : Result := emit .slti .i s

/-- R1025 `sltiu`: codec `i`; lifts to `seqz`. -/
def execSltiu (s : State) : Result := emit .sltiu .i s

/-- R1026 `xori`: codec `i`; lifts to `not`. -/
def execXori (s : State) : Result := emit .xori .i s

/-- R1027 `ori`: codec `i`. -/
def execOri (s : State) : Result := emit .ori .i s

/-- R1028 `andi`: codec `i`. -/
def execAndi (s : State) : Result := emit .andi .i s

/-- R1029 `slli`: codec `i_sh`. -/
def execSlli (s : State) : Result := emit .slli .i_sh s

/-- R1030 `srli`: codec `i_sh`. -/
def execSrli (s : State) : Result := emit .srli .i_sh s

/-- R1031 `srai`: codec `i_sh`. -/
def execSrai (s : State) : Result := emit .srai .i_sh s

/-- R1032 `add`: codec `r`. -/
def execAdd (s : State) : Result := emit .add .r s

/-- R1033 `sub`: codec `r`; lifts to `neg`. -/
def execSub (s : State) : Result := emit .sub .r s

/-- R1034 `sll`: codec `r`. -/
def execSll (s : State) : Result := emit .sll .r s

/-- R1035 `slt`: codec `r`; lifts to `sltz`, `sgtz`. -/
def execSlt (s : State) : Result := emit .slt .r s

/-- R1036 `sltu`: codec `r`; lifts to `snez`. -/
def execSltu (s : State) : Result := emit .sltu .r s

/-- R1037 `xor`: codec `r`. -/
def execXor (s : State) : Result := emit .xor .r s

/-- R1038 `srl`: codec `r`. -/
def execSrl (s : State) : Result := emit .srl .r s

/-- R1039 `sra`: codec `r`. -/
def execSra (s : State) : Result := emit .sra .r s

/-- R1040 `or`: codec `r`. -/
def execOr (s : State) : Result := emit .or .r s

/-- R1041 `and`: codec `r`. -/
def execAnd (s : State) : Result := emit .and .r s

/-- R1042 `fence`: codec `r_f`. -/
def execFence (s : State) : Result := emit .fence .r_f s

/-- R1043 `fence.i`: codec `none`. -/
def execFenceI (s : State) : Result := emit .fenceI .none s

/-- R1044 `ecall`: codec `none`. -/
def execEcall (s : State) : Result := emit .ecall .none s

/-- R1045 `ebreak`: codec `none`. -/
def execEbreak (s : State) : Result := emit .ebreak .none s

/-- R1046 `addiw`: codec `i`; lifts to `sext.w`. -/
def execAddiw (s : State) : Result := emit .addiw .i s

/-- R1047 `slliw`: codec `i_sh5`. -/
def execSlliw (s : State) : Result := emit .slliw .i_sh5 s

/-- R1048 `srliw`: codec `i_sh5`. -/
def execSrliw (s : State) : Result := emit .srliw .i_sh5 s

/-- R1049 `sraiw`: codec `i_sh5`. -/
def execSraiw (s : State) : Result := emit .sraiw .i_sh5 s

/-- R1050 `addw`: codec `r`. -/
def execAddw (s : State) : Result := emit .addw .r s

/-- R1051 `subw`: codec `r`; lifts to `negw`. -/
def execSubw (s : State) : Result := emit .subw .r s

/-- R1052 `sllw`: codec `r`. -/
def execSllw (s : State) : Result := emit .sllw .r s

/-- R1053 `srlw`: codec `r`. -/
def execSrlw (s : State) : Result := emit .srlw .r s

/-- R1054 `sraw`: codec `r`. -/
def execSraw (s : State) : Result := emit .sraw .r s

/-- R1055 `lq`: codec `i`. -/
def execLq (s : State) : Result := emit .lq .i s

/-- R1056 `addid`: codec `i`. -/
def execAddid (s : State) : Result := emit .addid .i s

/-- R1057 `sllid`: codec `i_sh6`. -/
def execSllid (s : State) : Result := emit .sllid .i_sh6 s

/-- R1058 `srlid`: codec `i_sh6`. -/
def execSrlid (s : State) : Result := emit .srlid .i_sh6 s

/-- R1059 `sraid`: codec `i_sh6`. -/
def execSraid (s : State) : Result := emit .sraid .i_sh6 s

/-- R1060 `addd`: codec `r`. -/
def execAddd (s : State) : Result := emit .addd .r s

/-- R1061 `subd`: codec `r`. -/
def execSubd (s : State) : Result := emit .subd .r s

/-- R1062 `slld`: codec `r`. -/
def execSlld (s : State) : Result := emit .slld .r s

/-- R1063 `srld`: codec `r`. -/
def execSrld (s : State) : Result := emit .srld .r s

/-- R1064 `srad`: codec `r`. -/
def execSrad (s : State) : Result := emit .srad .r s

/-- R1065 `mul`: codec `r`. -/
def execMul (s : State) : Result := emit .mul .r s

/-- R1066 `mulh`: codec `r`. -/
def execMulh (s : State) : Result := emit .mulh .r s

/-- R1067 `mulhsu`: codec `r`. -/
def execMulhsu (s : State) : Result := emit .mulhsu .r s

/-- R1068 `mulhu`: codec `r`. -/
def execMulhu (s : State) : Result := emit .mulhu .r s

/-- R1069 `div`: codec `r`. -/
def execDiv (s : State) : Result := emit .div .r s

/-- R1070 `divu`: codec `r`. -/
def execDivu (s : State) : Result := emit .divu .r s

/-- R1071 `rem`: codec `r`. -/
def execRem (s : State) : Result := emit .rem .r s

/-- R1072 `remu`: codec `r`. -/
def execRemu (s : State) : Result := emit .remu .r s

/-- R1073 `mulw`: codec `r`. -/
def execMulw (s : State) : Result := emit .mulw .r s

/-- R1074 `divw`: codec `r`. -/
def execDivw (s : State) : Result := emit .divw .r s

/-- R1075 `divuw`: codec `r`. -/
def execDivuw (s : State) : Result := emit .divuw .r s

/-- R1076 `remw`: codec `r`. -/
def execRemw (s : State) : Result := emit .remw .r s

/-- R1077 `remuw`: codec `r`. -/
def execRemuw (s : State) : Result := emit .remuw .r s

/-- R1078 `muld`: codec `r`. -/
def execMuld (s : State) : Result := emit .muld .r s

/-- R1079 `divd`: codec `r`. -/
def execDivd (s : State) : Result := emit .divd .r s

/-- R1080 `divud`: codec `r`. -/
def execDivud (s : State) : Result := emit .divud .r s

/-- R1081 `remd`: codec `r`. -/
def execRemd (s : State) : Result := emit .remd .r s

/-- R1082 `remud`: codec `r`. -/
def execRemud (s : State) : Result := emit .remud .r s

/-- R1083 `lr.w`: codec `r_l`. -/
def execLrW (s : State) : Result := emit .lrW .r_l s

/-- R1084 `sc.w`: codec `r_a`. -/
def execScW (s : State) : Result := emit .scW .r_a s

/-- R1085 `amoadd.w`: codec `r_a`. -/
def execAmoaddW (s : State) : Result := emit .amoaddW .r_a s

/-- R1086 `amoswap.w`: codec `r_a`. -/
def execAmoswapW (s : State) : Result := emit .amoswapW .r_a s

/-- R1087 `amoxor.w`: codec `r_a`. -/
def execAmoxorW (s : State) : Result := emit .amoxorW .r_a s

/-- R1088 `amoor.w`: codec `r_a`. -/
def execAmoorW (s : State) : Result := emit .amoorW .r_a s

/-- R1089 `amoand.w`: codec `r_a`. -/
def execAmoandW (s : State) : Result := emit .amoandW .r_a s

/-- R1090 `amomin.w`: codec `r_a`. -/
def execAmominW (s : State) : Result := emit .amominW .r_a s

/-- R1091 `amomax.w`: codec `r_a`. -/
def execAmomaxW (s : State) : Result := emit .amomaxW .r_a s

/-- R1092 `amominu.w`: codec `r_a`. -/
def execAmominuW (s : State) : Result := emit .amominuW .r_a s

/-- R1093 `amomaxu.w`: codec `r_a`. -/
def execAmomaxuW (s : State) : Result := emit .amomaxuW .r_a s

/-- R1094 `lr.d`: codec `r_l`. -/
def execLrD (s : State) : Result := emit .lrD .r_l s

/-- R1095 `sc.d`: codec `r_a`. -/
def execScD (s : State) : Result := emit .scD .r_a s

/-- R1096 `amoadd.d`: codec `r_a`. -/
def execAmoaddD (s : State) : Result := emit .amoaddD .r_a s

/-- R1097 `amoswap.d`: codec `r_a`. -/
def execAmoswapD (s : State) : Result := emit .amoswapD .r_a s

/-- R1098 `amoxor.d`: codec `r_a`. -/
def execAmoxorD (s : State) : Result := emit .amoxorD .r_a s

/-- R1099 `amoor.d`: codec `r_a`. -/
def execAmoorD (s : State) : Result := emit .amoorD .r_a s

/-- R1100 `amoand.d`: codec `r_a`. -/
def execAmoandD (s : State) : Result := emit .amoandD .r_a s

/-- R1101 `amomin.d`: codec `r_a`. -/
def execAmominD (s : State) : Result := emit .amominD .r_a s

/-- R1102 `amomax.d`: codec `r_a`. -/
def execAmomaxD (s : State) : Result := emit .amomaxD .r_a s

/-- R1103 `amominu.d`: codec `r_a`. -/
def execAmominuD (s : State) : Result := emit .amominuD .r_a s

/-- R1104 `amomaxu.d`: codec `r_a`. -/
def execAmomaxuD (s : State) : Result := emit .amomaxuD .r_a s

/-- R1105 `lr.q`: codec `r_l`. -/
def execLrQ (s : State) : Result := emit .lrQ .r_l s

/-- R1106 `sc.q`: codec `r_a`. -/
def execScQ (s : State) : Result := emit .scQ .r_a s

/-- R1107 `amoadd.q`: codec `r_a`. -/
def execAmoaddQ (s : State) : Result := emit .amoaddQ .r_a s

/-- R1108 `amoswap.q`: codec `r_a`. -/
def execAmoswapQ (s : State) : Result := emit .amoswapQ .r_a s

/-- R1109 `amoxor.q`: codec `r_a`. -/
def execAmoxorQ (s : State) : Result := emit .amoxorQ .r_a s

/-- R1110 `amoor.q`: codec `r_a`. -/
def execAmoorQ (s : State) : Result := emit .amoorQ .r_a s

/-- R1111 `amoand.q`: codec `r_a`. -/
def execAmoandQ (s : State) : Result := emit .amoandQ .r_a s

/-- R1112 `amomin.q`: codec `r_a`. -/
def execAmominQ (s : State) : Result := emit .amominQ .r_a s

/-- R1113 `amomax.q`: codec `r_a`. -/
def execAmomaxQ (s : State) : Result := emit .amomaxQ .r_a s

/-- R1114 `amominu.q`: codec `r_a`. -/
def execAmominuQ (s : State) : Result := emit .amominuQ .r_a s

/-- R1115 `amomaxu.q`: codec `r_a`. -/
def execAmomaxuQ (s : State) : Result := emit .amomaxuQ .r_a s

/-- R1116 `csrrw`: codec `i_csr`; lifts to `fsrm`, `fsflags`, `fscsr`, `csrw`. -/
def execCsrrw (s : State) : Result := emit .csrrw .i_csr s

/-- R1117 `csrrs`: codec `i_csr`; lifts to `rdcycle`, `rdtime`, `rdinstret`, `rdcycleh`, `rdtimeh`, `rdinstreth`,
`frcsr`, `frrm`, `frflags`, `csrr`, `csrs`. -/
def execCsrrs (s : State) : Result := emit .csrrs .i_csr s

/-- R1118 `csrrc`: codec `i_csr`; lifts to `csrc`. -/
def execCsrrc (s : State) : Result := emit .csrrc .i_csr s

/-- R1119 `csrrwi`: codec `i_csri`; lifts to `fsrmi`, `fsflagsi`, `csrwi`. -/
def execCsrrwi (s : State) : Result := emit .csrrwi .i_csri s

/-- R1120 `csrrsi`: codec `i_csri`; lifts to `csrsi`. -/
def execCsrrsi (s : State) : Result := emit .csrrsi .i_csri s

/-- R1121 `csrrci`: codec `i_csri`; lifts to `csrci`. -/
def execCsrrci (s : State) : Result := emit .csrrci .i_csri s

/-- R1122 `uret`: codec `none`. -/
def execUret (s : State) : Result := emit .uret .none s

/-- R1123 `sret`: codec `none`. -/
def execSret (s : State) : Result := emit .sret .none s

/-- R1124 `mret`: codec `none`. -/
def execMret (s : State) : Result := emit .mret .none s

/-- R1125 `dret`: codec `none`. -/
def execDret (s : State) : Result := emit .dret .none s

/-- R1126 `wfi`: codec `none`. -/
def execWfi (s : State) : Result := emit .wfi .none s

/-- R1127 `sfence.w.inval`: codec `none`. -/
def execSfenceWInval (s : State) : Result := emit .sfenceWInval .none s

/-- R1128 `sfence.inval.ir`: codec `none`. -/
def execSfenceInvalIr (s : State) : Result := emit .sfenceInvalIr .none s

/-- R1129 `sfence.vma`: codec `r_s12`. -/
def execSfenceVma (s : State) : Result := emit .sfenceVma .r_s12 s

/-- R1130 `sinval.vma`: codec `r_s12`. -/
def execSinvalVma (s : State) : Result := emit .sinvalVma .r_s12 s

/-- R1131 `hfence.vvma`: codec `r_s12`. -/
def execHfenceVvma (s : State) : Result := emit .hfenceVvma .r_s12 s

/-- R1132 `hfence.gvma`: codec `r_s12`. -/
def execHfenceGvma (s : State) : Result := emit .hfenceGvma .r_s12 s

/-- R1133 `hinval.vvma`: codec `r_s12`. -/
def execHinvalVvma (s : State) : Result := emit .hinvalVvma .r_s12 s

/-- R1134 `hinval.gvma`: codec `r_s12`. -/
def execHinvalGvma (s : State) : Result := emit .hinvalGvma .r_s12 s

/-- R1135 `hlv.b`: codec `r2`. -/
def execHlvB (s : State) : Result := emit .hlvB .r2 s

/-- R1136 `hlv.bu`: codec `r2`. -/
def execHlvBu (s : State) : Result := emit .hlvBu .r2 s

/-- R1137 `hlv.h`: codec `r2`. -/
def execHlvH (s : State) : Result := emit .hlvH .r2 s

/-- R1138 `hlv.hu`: codec `r2`. -/
def execHlvHu (s : State) : Result := emit .hlvHu .r2 s

/-- R1139 `hlvx.hu`: codec `r2`. -/
def execHlvxHu (s : State) : Result := emit .hlvxHu .r2 s

/-- R1140 `hlv.w`: codec `r2`. -/
def execHlvW (s : State) : Result := emit .hlvW .r2 s

/-- R1141 `hlvx.wu`: codec `r2`. -/
def execHlvxWu (s : State) : Result := emit .hlvxWu .r2 s

/-- R1142 `hlv.wu`: codec `r2`. -/
def execHlvWu (s : State) : Result := emit .hlvWu .r2 s

/-- R1143 `hlv.d`: codec `r2`. -/
def execHlvD (s : State) : Result := emit .hlvD .r2 s

/-- R1144 `hsv.b`: codec `r_s12`. -/
def execHsvB (s : State) : Result := emit .hsvB .r_s12 s

/-- R1145 `hsv.h`: codec `r_s12`. -/
def execHsvH (s : State) : Result := emit .hsvH .r_s12 s

/-- R1146 `hsv.w`: codec `r_s12`. -/
def execHsvW (s : State) : Result := emit .hsvW .r_s12 s

/-- R1147 `hsv.d`: codec `r_s12`. -/
def execHsvD (s : State) : Result := emit .hsvD .r_s12 s

/-- R1148 `cbo.inval`: codec `r_s1`. -/
def execCboInval (s : State) : Result := emit .cboInval .r_s1 s

/-- R1149 `cbo.clean`: codec `r_s1`. -/
def execCboClean (s : State) : Result := emit .cboClean .r_s1 s

/-- R1150 `cbo.flush`: codec `r_s1`. -/
def execCboFlush (s : State) : Result := emit .cboFlush .r_s1 s

/-- R1151 `cbo.zero`: codec `r_s1`. -/
def execCboZero (s : State) : Result := emit .cboZero .r_s1 s

end Sys2Proof.Machine
end

