-- ==== Sys2Proof/Machine/Pseudo.lean ====
section
/-! DEFINITION. Machine/Pseudo.lean: the meanings of the pseudo-opcodes (48_pseudo): each is the decode result the
block produces for the opcode (00_scope.md R7, 40_pipeline.md R200). -/

namespace Sys2Proof.Machine

/-- R8000 `nop`: the lifted form of `addi` where rd=x0, rs1=x0, imm=0; codec `i`. -/
def execNop (s : State) : Result := emit .nop .i s

/-- R8001 `mv`: the lifted form of `addi` where imm=0; codec `i`. -/
def execMv (s : State) : Result := emit .mv .i s

/-- R8002 `li`: the lifted form of `addi` where rs1=x0; codec `i`. -/
def execLi (s : State) : Result := emit .li .i s

/-- R8003 `sext.w`: the lifted form of `addiw` where imm=0; codec `i`. -/
def execSextW (s : State) : Result := emit .sextW .i s

/-- R8004 `not`: the lifted form of `xori` where imm=-1; codec `i`. -/
def execNot (s : State) : Result := emit .not .i s

/-- R8005 `seqz`: the lifted form of `sltiu` where imm=1; codec `i`. -/
def execSeqz (s : State) : Result := emit .seqz .i s

/-- R8006 `snez`: the lifted form of `sltu` where rs1=x0; codec `r`. -/
def execSnez (s : State) : Result := emit .snez .r s

/-- R8007 `sltz`: the lifted form of `slt` where rs2=x0; codec `r`. -/
def execSltz (s : State) : Result := emit .sltz .r s

/-- R8008 `sgtz`: the lifted form of `slt` where rs1=x0; codec `r`. -/
def execSgtz (s : State) : Result := emit .sgtz .r s

/-- R8009 `neg`: the lifted form of `sub` where rs1=x0; codec `r`. -/
def execNeg (s : State) : Result := emit .neg .r s

/-- R8010 `negw`: the lifted form of `subw` where rs1=x0; codec `r`. -/
def execNegw (s : State) : Result := emit .negw .r s

/-- R8011 `beqz`: the lifted form of `beq` where rs2=x0; codec `b`. -/
def execBeqz (s : State) : Result := emit .beqz .b s

/-- R8012 `bnez`: the lifted form of `bne` where rs2=x0; codec `b`. -/
def execBnez (s : State) : Result := emit .bnez .b s

/-- R8013 `bltz`: the lifted form of `blt` where rs2=x0; codec `b`. -/
def execBltz (s : State) : Result := emit .bltz .b s

/-- R8014 `bgtz`: the lifted form of `blt` where rs1=x0; codec `b`. -/
def execBgtz (s : State) : Result := emit .bgtz .b s

/-- R8015 `blez`: the lifted form of `bge` where rs1=x0; codec `b`. -/
def execBlez (s : State) : Result := emit .blez .b s

/-- R8016 `bgez`: the lifted form of `bge` where rs2=x0; codec `b`. -/
def execBgez (s : State) : Result := emit .bgez .b s

/-- R8017 `j`: the lifted form of `jal` where rd=x0; codec `j`. -/
def execJ (s : State) : Result := emit .j .j s

/-- R8018 `jal.p`: the lifted form of `jal` where rd=ra; codec `j`. -/
def execJalP (s : State) : Result := emit .jalP .j s

/-- R8019 `ret`: the lifted form of `jalr` where rd=x0, rs1=ra, imm=0; codec `i`. -/
def execRet (s : State) : Result := emit .ret .i s

/-- R8020 `jr`: the lifted form of `jalr` where rd=x0, imm=0; codec `i`. -/
def execJr (s : State) : Result := emit .jr .i s

/-- R8021 `jalr.p`: the lifted form of `jalr` where rd=ra, imm=0; codec `i`. -/
def execJalrP (s : State) : Result := emit .jalrP .i s

/-- R8022 `fsrm`: the lifted form of `csrrw` where csr=0x002; codec `i_csr`. -/
def execFsrm (s : State) : Result := emit .fsrm .i_csr s

/-- R8023 `fsflags`: the lifted form of `csrrw` where csr=0x001; codec `i_csr`. -/
def execFsflags (s : State) : Result := emit .fsflags .i_csr s

/-- R8024 `fscsr`: the lifted form of `csrrw` where csr=0x003; codec `i_csr`. -/
def execFscsr (s : State) : Result := emit .fscsr .i_csr s

/-- R8025 `csrw`: the lifted form of `csrrw` where rd=x0; codec `i_csr`. -/
def execCsrw (s : State) : Result := emit .csrw .i_csr s

/-- R8026 `rdcycle`: the lifted form of `csrrs` where rs1=x0, csr=0xc00; codec `i_csr`. -/
def execRdcycle (s : State) : Result := emit .rdcycle .i_csr s

/-- R8027 `rdtime`: the lifted form of `csrrs` where rs1=x0, csr=0xc01; codec `i_csr`. -/
def execRdtime (s : State) : Result := emit .rdtime .i_csr s

/-- R8028 `rdinstret`: the lifted form of `csrrs` where rs1=x0, csr=0xc02; codec `i_csr`. -/
def execRdinstret (s : State) : Result := emit .rdinstret .i_csr s

/-- R8029 `rdcycleh`: the lifted form of `csrrs` where rs1=x0, csr=0xc80; codec `i_csr`. -/
def execRdcycleh (s : State) : Result := emit .rdcycleh .i_csr s

/-- R8030 `rdtimeh`: the lifted form of `csrrs` where rs1=x0, csr=0xc81; codec `i_csr`. -/
def execRdtimeh (s : State) : Result := emit .rdtimeh .i_csr s

/-- R8031 `rdinstreth`: the lifted form of `csrrs` where rs1=x0, csr=0xc82; codec `i_csr`. -/
def execRdinstreth (s : State) : Result := emit .rdinstreth .i_csr s

/-- R8032 `frcsr`: the lifted form of `csrrs` where rs1=x0, csr=0x003; codec `i_csr`. -/
def execFrcsr (s : State) : Result := emit .frcsr .i_csr s

/-- R8033 `frrm`: the lifted form of `csrrs` where rs1=x0, csr=0x002; codec `i_csr`. -/
def execFrrm (s : State) : Result := emit .frrm .i_csr s

/-- R8034 `frflags`: the lifted form of `csrrs` where rs1=x0, csr=0x001; codec `i_csr`. -/
def execFrflags (s : State) : Result := emit .frflags .i_csr s

/-- R8035 `csrr`: the lifted form of `csrrs` where rs1=x0; codec `i_csr`. -/
def execCsrr (s : State) : Result := emit .csrr .i_csr s

/-- R8036 `csrs`: the lifted form of `csrrs` where rd=x0; codec `i_csr`. -/
def execCsrs (s : State) : Result := emit .csrs .i_csr s

/-- R8037 `csrc`: the lifted form of `csrrc` where rd=x0; codec `i_csr`. -/
def execCsrc (s : State) : Result := emit .csrc .i_csr s

/-- R8038 `fsrmi`: the lifted form of `csrrwi` where csr=0x002; codec `i_csri`. -/
def execFsrmi (s : State) : Result := emit .fsrmi .i_csri s

/-- R8039 `fsflagsi`: the lifted form of `csrrwi` where csr=0x001; codec `i_csri`. -/
def execFsflagsi (s : State) : Result := emit .fsflagsi .i_csri s

/-- R8040 `csrwi`: the lifted form of `csrrwi` where rd=x0; codec `i_csri`. -/
def execCsrwi (s : State) : Result := emit .csrwi .i_csri s

/-- R8041 `csrsi`: the lifted form of `csrrsi` where rd=x0; codec `i_csri`. -/
def execCsrsi (s : State) : Result := emit .csrsi .i_csri s

/-- R8042 `csrci`: the lifted form of `csrrci` where rd=x0; codec `i_csri`. -/
def execCsrci (s : State) : Result := emit .csrci .i_csri s

/-- R8043 `fmv.s`: the lifted form of `fsgnj.s` where rs2=rs1; codec `r`. -/
def execFmvS (s : State) : Result := emit .fmvS .r s

/-- R8044 `fneg.s`: the lifted form of `fsgnjn.s` where rs2=rs1; codec `r`. -/
def execFnegS (s : State) : Result := emit .fnegS .r s

/-- R8045 `fabs.s`: the lifted form of `fsgnjx.s` where rs2=rs1; codec `r`. -/
def execFabsS (s : State) : Result := emit .fabsS .r s

/-- R8046 `fmv.d`: the lifted form of `fsgnj.d` where rs2=rs1; codec `r`. -/
def execFmvD (s : State) : Result := emit .fmvD .r s

/-- R8047 `fneg.d`: the lifted form of `fsgnjn.d` where rs2=rs1; codec `r`. -/
def execFnegD (s : State) : Result := emit .fnegD .r s

/-- R8048 `fabs.d`: the lifted form of `fsgnjx.d` where rs2=rs1; codec `r`. -/
def execFabsD (s : State) : Result := emit .fabsD .r s

/-- R8049 `fmv.h`: the lifted form of `fsgnj.h` where rs2=rs1; codec `r`. -/
def execFmvH (s : State) : Result := emit .fmvH .r s

/-- R8050 `fneg.h`: the lifted form of `fsgnjn.h` where rs2=rs1; codec `r`. -/
def execFnegH (s : State) : Result := emit .fnegH .r s

/-- R8051 `fabs.h`: the lifted form of `fsgnjx.h` where rs2=rs1; codec `r`. -/
def execFabsH (s : State) : Result := emit .fabsH .r s

/-- R8052 `fmv.q`: the lifted form of `fsgnj.q` where rs2=rs1; codec `r`. -/
def execFmvQ (s : State) : Result := emit .fmvQ .r s

/-- R8053 `fneg.q`: the lifted form of `fsgnjn.q` where rs2=rs1; codec `r`. -/
def execFnegQ (s : State) : Result := emit .fnegQ .r s

/-- R8054 `fabs.q`: the lifted form of `fsgnjx.q` where rs2=rs1; codec `r`. -/
def execFabsQ (s : State) : Result := emit .fabsQ .r s

/-- R8055 `zext.w`: the lifted form of `add.uw` where rs2=x0; codec `r`. -/
def execZextW (s : State) : Result := emit .zextW .r s

/-- R8056 `vnot.v`: the lifted form of `vxor.vi` where imm=-1; codec `v_i`. -/
def execVnotV (s : State) : Result := emit .vnotV .v_i s

/-- R8057 `vneg.v`: the lifted form of `vrsub.vx` where rs1=x0; codec `v_r`. -/
def execVnegV (s : State) : Result := emit .vnegV .v_r s

/-- R8058 `vwcvt.x.x.v`: the lifted form of `vwadd.vx` where rs1=x0; codec `v_r`. -/
def execVwcvtXXV (s : State) : Result := emit .vwcvtXXV .v_r s

/-- R8059 `vwcvtu.x.x.v`: the lifted form of `vwaddu.vx` where rs1=x0; codec `v_r`. -/
def execVwcvtuXXV (s : State) : Result := emit .vwcvtuXXV .v_r s

/-- R8060 `vncvt.x.x.w`: the lifted form of `vnsrl.wx` where rs1=x0; codec `v_r`. -/
def execVncvtXXW (s : State) : Result := emit .vncvtXXW .v_r s

/-- R8061 `vmmv.m`: the lifted form of `vmand.mm` where rs2=rs1; codec `v_r`. -/
def execVmmvM (s : State) : Result := emit .vmmvM .v_r s

/-- R8062 `vmnot.m`: the lifted form of `vmnand.mm` where rs2=rs1; codec `v_r`. -/
def execVmnotM (s : State) : Result := emit .vmnotM .v_r s

/-- R8063 `vmclr.m`: the lifted form of `vmxor.mm` where rd=rs1, rs2=rs1; codec `v_r`. -/
def execVmclrM (s : State) : Result := emit .vmclrM .v_r s

/-- R8064 `vmset.m`: the lifted form of `vmxnor.mm` where rd=rs1, rs2=rs1; codec `v_r`. -/
def execVmsetM (s : State) : Result := emit .vmsetM .v_r s

/-- R8065 `vfneg.v`: the lifted form of `vfsgnjn.vv` where rs2=rs1; codec `v_r`. -/
def execVfnegV (s : State) : Result := emit .vfnegV .v_r s

/-- R8066 `vfabs.v`: the lifted form of `vfsgnjx.vv` where rs2=rs1; codec `v_r`. -/
def execVfabsV (s : State) : Result := emit .vfabsV .v_r s

end Sys2Proof.Machine
end

