-- ==== Sys2Proof/Machine/VectorArith.lean ====
section
/-! DEFINITION. Machine/VectorArith.lean: the meanings of the vector configuration and arithmetic opcodes (45_vector_arith): each is the decode result the
block produces for the opcode (00_scope.md R7, 40_pipeline.md R200). -/

namespace Sys2Proof.Machine

/-- R5000 `vsetvli`: codec `vsetvli`. -/
def execVsetvli (s : State) : Result := emit .vsetvli .vsetvli s

/-- R5001 `vsetivli`: codec `vsetivli`. -/
def execVsetivli (s : State) : Result := emit .vsetivli .vsetivli s

/-- R5002 `vsetvl`: codec `r`. -/
def execVsetvl (s : State) : Result := emit .vsetvl .r s

/-- R5003 `vadd.vv`: codec `v_r`. -/
def execVaddVv (s : State) : Result := emit .vaddVv .v_r s

/-- R5004 `vadd.vx`: codec `v_r`. -/
def execVaddVx (s : State) : Result := emit .vaddVx .v_r s

/-- R5005 `vadd.vi`: codec `v_i`. -/
def execVaddVi (s : State) : Result := emit .vaddVi .v_i s

/-- R5006 `vsub.vv`: codec `v_r`. -/
def execVsubVv (s : State) : Result := emit .vsubVv .v_r s

/-- R5007 `vsub.vx`: codec `v_r`. -/
def execVsubVx (s : State) : Result := emit .vsubVx .v_r s

/-- R5008 `vrsub.vx`: codec `v_r`; lifts to `vneg.v`. -/
def execVrsubVx (s : State) : Result := emit .vrsubVx .v_r s

/-- R5009 `vrsub.vi`: codec `v_i`. -/
def execVrsubVi (s : State) : Result := emit .vrsubVi .v_i s

/-- R5010 `vminu.vv`: codec `v_r`. -/
def execVminuVv (s : State) : Result := emit .vminuVv .v_r s

/-- R5011 `vminu.vx`: codec `v_r`. -/
def execVminuVx (s : State) : Result := emit .vminuVx .v_r s

/-- R5012 `vmin.vv`: codec `v_r`. -/
def execVminVv (s : State) : Result := emit .vminVv .v_r s

/-- R5013 `vmin.vx`: codec `v_r`. -/
def execVminVx (s : State) : Result := emit .vminVx .v_r s

/-- R5014 `vmaxu.vv`: codec `v_r`. -/
def execVmaxuVv (s : State) : Result := emit .vmaxuVv .v_r s

/-- R5015 `vmaxu.vx`: codec `v_r`. -/
def execVmaxuVx (s : State) : Result := emit .vmaxuVx .v_r s

/-- R5016 `vmax.vv`: codec `v_r`. -/
def execVmaxVv (s : State) : Result := emit .vmaxVv .v_r s

/-- R5017 `vmax.vx`: codec `v_r`. -/
def execVmaxVx (s : State) : Result := emit .vmaxVx .v_r s

/-- R5018 `vand.vv`: codec `v_r`. -/
def execVandVv (s : State) : Result := emit .vandVv .v_r s

/-- R5019 `vand.vx`: codec `v_r`. -/
def execVandVx (s : State) : Result := emit .vandVx .v_r s

/-- R5020 `vand.vi`: codec `v_i`. -/
def execVandVi (s : State) : Result := emit .vandVi .v_i s

/-- R5021 `vor.vv`: codec `v_r`. -/
def execVorVv (s : State) : Result := emit .vorVv .v_r s

/-- R5022 `vor.vx`: codec `v_r`. -/
def execVorVx (s : State) : Result := emit .vorVx .v_r s

/-- R5023 `vor.vi`: codec `v_i`. -/
def execVorVi (s : State) : Result := emit .vorVi .v_i s

/-- R5024 `vxor.vv`: codec `v_r`. -/
def execVxorVv (s : State) : Result := emit .vxorVv .v_r s

/-- R5025 `vxor.vx`: codec `v_r`. -/
def execVxorVx (s : State) : Result := emit .vxorVx .v_r s

/-- R5026 `vxor.vi`: codec `v_i`; lifts to `vnot.v`. -/
def execVxorVi (s : State) : Result := emit .vxorVi .v_i s

/-- R5027 `vrgather.vv`: codec `v_r`. -/
def execVrgatherVv (s : State) : Result := emit .vrgatherVv .v_r s

/-- R5028 `vrgather.vx`: codec `v_r`. -/
def execVrgatherVx (s : State) : Result := emit .vrgatherVx .v_r s

/-- R5029 `vrgather.vi`: codec `v_iu`. -/
def execVrgatherVi (s : State) : Result := emit .vrgatherVi .v_iu s

/-- R5030 `vslidedown.vx`: codec `v_r`. -/
def execVslidedownVx (s : State) : Result := emit .vslidedownVx .v_r s

/-- R5031 `vslidedown.vi`: codec `v_iu`. -/
def execVslidedownVi (s : State) : Result := emit .vslidedownVi .v_iu s

/-- R5032 `vmseq.vv`: codec `v_r`. -/
def execVmseqVv (s : State) : Result := emit .vmseqVv .v_r s

/-- R5033 `vmseq.vx`: codec `v_r`. -/
def execVmseqVx (s : State) : Result := emit .vmseqVx .v_r s

/-- R5034 `vmseq.vi`: codec `v_i`. -/
def execVmseqVi (s : State) : Result := emit .vmseqVi .v_i s

/-- R5035 `vmsne.vv`: codec `v_r`. -/
def execVmsneVv (s : State) : Result := emit .vmsneVv .v_r s

/-- R5036 `vmsne.vx`: codec `v_r`. -/
def execVmsneVx (s : State) : Result := emit .vmsneVx .v_r s

/-- R5037 `vmsne.vi`: codec `v_i`. -/
def execVmsneVi (s : State) : Result := emit .vmsneVi .v_i s

/-- R5038 `vmsltu.vv`: codec `v_r`. -/
def execVmsltuVv (s : State) : Result := emit .vmsltuVv .v_r s

/-- R5039 `vmsltu.vx`: codec `v_r`. -/
def execVmsltuVx (s : State) : Result := emit .vmsltuVx .v_r s

/-- R5040 `vmslt.vv`: codec `v_r`. -/
def execVmsltVv (s : State) : Result := emit .vmsltVv .v_r s

/-- R5041 `vmslt.vx`: codec `v_r`. -/
def execVmsltVx (s : State) : Result := emit .vmsltVx .v_r s

/-- R5042 `vmsleu.vv`: codec `v_r`. -/
def execVmsleuVv (s : State) : Result := emit .vmsleuVv .v_r s

/-- R5043 `vmsleu.vx`: codec `v_r`. -/
def execVmsleuVx (s : State) : Result := emit .vmsleuVx .v_r s

/-- R5044 `vmsleu.vi`: codec `v_i`. -/
def execVmsleuVi (s : State) : Result := emit .vmsleuVi .v_i s

/-- R5045 `vmsle.vv`: codec `v_r`. -/
def execVmsleVv (s : State) : Result := emit .vmsleVv .v_r s

/-- R5046 `vmsle.vx`: codec `v_r`. -/
def execVmsleVx (s : State) : Result := emit .vmsleVx .v_r s

/-- R5047 `vmsle.vi`: codec `v_i`. -/
def execVmsleVi (s : State) : Result := emit .vmsleVi .v_i s

/-- R5048 `vmsgtu.vx`: codec `v_r`. -/
def execVmsgtuVx (s : State) : Result := emit .vmsgtuVx .v_r s

/-- R5049 `vmsgtu.vi`: codec `v_i`. -/
def execVmsgtuVi (s : State) : Result := emit .vmsgtuVi .v_i s

/-- R5050 `vmsgt.vx`: codec `v_r`. -/
def execVmsgtVx (s : State) : Result := emit .vmsgtVx .v_r s

/-- R5051 `vmsgt.vi`: codec `v_i`. -/
def execVmsgtVi (s : State) : Result := emit .vmsgtVi .v_i s

/-- R5052 `vsaddu.vv`: codec `v_r`. -/
def execVsadduVv (s : State) : Result := emit .vsadduVv .v_r s

/-- R5053 `vsaddu.vx`: codec `v_r`. -/
def execVsadduVx (s : State) : Result := emit .vsadduVx .v_r s

/-- R5054 `vsaddu.vi`: codec `v_i`. -/
def execVsadduVi (s : State) : Result := emit .vsadduVi .v_i s

/-- R5055 `vsadd.vv`: codec `v_r`. -/
def execVsaddVv (s : State) : Result := emit .vsaddVv .v_r s

/-- R5056 `vsadd.vx`: codec `v_r`. -/
def execVsaddVx (s : State) : Result := emit .vsaddVx .v_r s

/-- R5057 `vsadd.vi`: codec `v_i`. -/
def execVsaddVi (s : State) : Result := emit .vsaddVi .v_i s

/-- R5058 `vssubu.vv`: codec `v_r`. -/
def execVssubuVv (s : State) : Result := emit .vssubuVv .v_r s

/-- R5059 `vssubu.vx`: codec `v_r`. -/
def execVssubuVx (s : State) : Result := emit .vssubuVx .v_r s

/-- R5060 `vssub.vv`: codec `v_r`. -/
def execVssubVv (s : State) : Result := emit .vssubVv .v_r s

/-- R5061 `vssub.vx`: codec `v_r`. -/
def execVssubVx (s : State) : Result := emit .vssubVx .v_r s

/-- R5062 `vsll.vv`: codec `v_r`. -/
def execVsllVv (s : State) : Result := emit .vsllVv .v_r s

/-- R5063 `vsll.vx`: codec `v_r`. -/
def execVsllVx (s : State) : Result := emit .vsllVx .v_r s

/-- R5064 `vsll.vi`: codec `v_iu`. -/
def execVsllVi (s : State) : Result := emit .vsllVi .v_iu s

/-- R5065 `vsmul.vv`: codec `v_r`. -/
def execVsmulVv (s : State) : Result := emit .vsmulVv .v_r s

/-- R5066 `vsmul.vx`: codec `v_r`. -/
def execVsmulVx (s : State) : Result := emit .vsmulVx .v_r s

/-- R5067 `vsrl.vv`: codec `v_r`. -/
def execVsrlVv (s : State) : Result := emit .vsrlVv .v_r s

/-- R5068 `vsrl.vx`: codec `v_r`. -/
def execVsrlVx (s : State) : Result := emit .vsrlVx .v_r s

/-- R5069 `vsrl.vi`: codec `v_iu`. -/
def execVsrlVi (s : State) : Result := emit .vsrlVi .v_iu s

/-- R5070 `vsra.vv`: codec `v_r`. -/
def execVsraVv (s : State) : Result := emit .vsraVv .v_r s

/-- R5071 `vsra.vx`: codec `v_r`. -/
def execVsraVx (s : State) : Result := emit .vsraVx .v_r s

/-- R5072 `vsra.vi`: codec `v_iu`. -/
def execVsraVi (s : State) : Result := emit .vsraVi .v_iu s

/-- R5073 `vssrl.vv`: codec `v_r`. -/
def execVssrlVv (s : State) : Result := emit .vssrlVv .v_r s

/-- R5074 `vssrl.vx`: codec `v_r`. -/
def execVssrlVx (s : State) : Result := emit .vssrlVx .v_r s

/-- R5075 `vssrl.vi`: codec `v_iu`. -/
def execVssrlVi (s : State) : Result := emit .vssrlVi .v_iu s

/-- R5076 `vssra.vv`: codec `v_r`. -/
def execVssraVv (s : State) : Result := emit .vssraVv .v_r s

/-- R5077 `vssra.vx`: codec `v_r`. -/
def execVssraVx (s : State) : Result := emit .vssraVx .v_r s

/-- R5078 `vssra.vi`: codec `v_iu`. -/
def execVssraVi (s : State) : Result := emit .vssraVi .v_iu s

/-- R5079 `vnsrl.wv`: codec `v_r`. -/
def execVnsrlWv (s : State) : Result := emit .vnsrlWv .v_r s

/-- R5080 `vnsrl.wx`: codec `v_r`; lifts to `vncvt.x.x.w`. -/
def execVnsrlWx (s : State) : Result := emit .vnsrlWx .v_r s

/-- R5081 `vnsrl.wi`: codec `v_iu`. -/
def execVnsrlWi (s : State) : Result := emit .vnsrlWi .v_iu s

/-- R5082 `vnsra.wv`: codec `v_r`. -/
def execVnsraWv (s : State) : Result := emit .vnsraWv .v_r s

/-- R5083 `vnsra.wx`: codec `v_r`. -/
def execVnsraWx (s : State) : Result := emit .vnsraWx .v_r s

/-- R5084 `vnsra.wi`: codec `v_iu`. -/
def execVnsraWi (s : State) : Result := emit .vnsraWi .v_iu s

/-- R5085 `vnclipu.wv`: codec `v_r`. -/
def execVnclipuWv (s : State) : Result := emit .vnclipuWv .v_r s

/-- R5086 `vnclipu.wx`: codec `v_r`. -/
def execVnclipuWx (s : State) : Result := emit .vnclipuWx .v_r s

/-- R5087 `vnclipu.wi`: codec `v_iu`. -/
def execVnclipuWi (s : State) : Result := emit .vnclipuWi .v_iu s

/-- R5088 `vnclip.wv`: codec `v_r`. -/
def execVnclipWv (s : State) : Result := emit .vnclipWv .v_r s

/-- R5089 `vnclip.wx`: codec `v_r`. -/
def execVnclipWx (s : State) : Result := emit .vnclipWx .v_r s

/-- R5090 `vnclip.wi`: codec `v_iu`. -/
def execVnclipWi (s : State) : Result := emit .vnclipWi .v_iu s

/-- R5091 `vrgatherei16.vv`: codec `v_r`. -/
def execVrgatherei16Vv (s : State) : Result := emit .vrgatherei16Vv .v_r s

/-- R5092 `vslideup.vx`: codec `v_r`. -/
def execVslideupVx (s : State) : Result := emit .vslideupVx .v_r s

/-- R5093 `vslideup.vi`: codec `v_iu`. -/
def execVslideupVi (s : State) : Result := emit .vslideupVi .v_iu s

/-- R5094 `vadc.vvm`: codec `v_r`. -/
def execVadcVvm (s : State) : Result := emit .vadcVvm .v_r s

/-- R5095 `vadc.vxm`: codec `v_r`. -/
def execVadcVxm (s : State) : Result := emit .vadcVxm .v_r s

/-- R5096 `vadc.vim`: codec `v_i`. -/
def execVadcVim (s : State) : Result := emit .vadcVim .v_i s

/-- R5097 `vmadc.vvm`: codec `v_r`. -/
def execVmadcVvm (s : State) : Result := emit .vmadcVvm .v_r s

/-- R5098 `vmadc.vxm`: codec `v_r`. -/
def execVmadcVxm (s : State) : Result := emit .vmadcVxm .v_r s

/-- R5099 `vmadc.vim`: codec `v_i`. -/
def execVmadcVim (s : State) : Result := emit .vmadcVim .v_i s

/-- R5100 `vmadc.vv`: codec `v_r`. -/
def execVmadcVv (s : State) : Result := emit .vmadcVv .v_r s

/-- R5101 `vmadc.vx`: codec `v_r`. -/
def execVmadcVx (s : State) : Result := emit .vmadcVx .v_r s

/-- R5102 `vmadc.vi`: codec `v_i`. -/
def execVmadcVi (s : State) : Result := emit .vmadcVi .v_i s

/-- R5103 `vsbc.vvm`: codec `v_r`. -/
def execVsbcVvm (s : State) : Result := emit .vsbcVvm .v_r s

/-- R5104 `vsbc.vxm`: codec `v_r`. -/
def execVsbcVxm (s : State) : Result := emit .vsbcVxm .v_r s

/-- R5105 `vmsbc.vvm`: codec `v_r`. -/
def execVmsbcVvm (s : State) : Result := emit .vmsbcVvm .v_r s

/-- R5106 `vmsbc.vxm`: codec `v_r`. -/
def execVmsbcVxm (s : State) : Result := emit .vmsbcVxm .v_r s

/-- R5107 `vmsbc.vv`: codec `v_r`. -/
def execVmsbcVv (s : State) : Result := emit .vmsbcVv .v_r s

/-- R5108 `vmsbc.vx`: codec `v_r`. -/
def execVmsbcVx (s : State) : Result := emit .vmsbcVx .v_r s

/-- R5109 `vmerge.vvm`: codec `v_r`. -/
def execVmergeVvm (s : State) : Result := emit .vmergeVvm .v_r s

/-- R5110 `vmerge.vxm`: codec `v_r`. -/
def execVmergeVxm (s : State) : Result := emit .vmergeVxm .v_r s

/-- R5111 `vmerge.vim`: codec `v_i`. -/
def execVmergeVim (s : State) : Result := emit .vmergeVim .v_i s

/-- R5112 `vmv.v.v`: codec `v_r`. -/
def execVmvVV (s : State) : Result := emit .vmvVV .v_r s

/-- R5113 `vmv.v.x`: codec `v_r`. -/
def execVmvVX (s : State) : Result := emit .vmvVX .v_r s

/-- R5114 `vmv.v.i`: codec `v_i`. -/
def execVmvVI (s : State) : Result := emit .vmvVI .v_i s

/-- R5115 `vmv1r.v`: codec `v_r2`. -/
def execVmv1rV (s : State) : Result := emit .vmv1rV .v_r2 s

/-- R5116 `vmv2r.v`: codec `v_r2`. -/
def execVmv2rV (s : State) : Result := emit .vmv2rV .v_r2 s

/-- R5117 `vmv4r.v`: codec `v_r2`. -/
def execVmv4rV (s : State) : Result := emit .vmv4rV .v_r2 s

/-- R5118 `vmv8r.v`: codec `v_r2`. -/
def execVmv8rV (s : State) : Result := emit .vmv8rV .v_r2 s

/-- R5119 `vwredsumu.vs`: codec `v_r`. -/
def execVwredsumuVs (s : State) : Result := emit .vwredsumuVs .v_r s

/-- R5120 `vwredsum.vs`: codec `v_r`. -/
def execVwredsumVs (s : State) : Result := emit .vwredsumVs .v_r s

/-- R5121 `vredsum.vs`: codec `v_r`. -/
def execVredsumVs (s : State) : Result := emit .vredsumVs .v_r s

/-- R5122 `vredand.vs`: codec `v_r`. -/
def execVredandVs (s : State) : Result := emit .vredandVs .v_r s

/-- R5123 `vredor.vs`: codec `v_r`. -/
def execVredorVs (s : State) : Result := emit .vredorVs .v_r s

/-- R5124 `vredxor.vs`: codec `v_r`. -/
def execVredxorVs (s : State) : Result := emit .vredxorVs .v_r s

/-- R5125 `vredminu.vs`: codec `v_r`. -/
def execVredminuVs (s : State) : Result := emit .vredminuVs .v_r s

/-- R5126 `vredmin.vs`: codec `v_r`. -/
def execVredminVs (s : State) : Result := emit .vredminVs .v_r s

/-- R5127 `vredmaxu.vs`: codec `v_r`. -/
def execVredmaxuVs (s : State) : Result := emit .vredmaxuVs .v_r s

/-- R5128 `vredmax.vs`: codec `v_r`. -/
def execVredmaxVs (s : State) : Result := emit .vredmaxVs .v_r s

/-- R5129 `vaaddu.vv`: codec `v_r`. -/
def execVaadduVv (s : State) : Result := emit .vaadduVv .v_r s

/-- R5130 `vaaddu.vx`: codec `v_r`. -/
def execVaadduVx (s : State) : Result := emit .vaadduVx .v_r s

/-- R5131 `vaadd.vv`: codec `v_r`. -/
def execVaaddVv (s : State) : Result := emit .vaaddVv .v_r s

/-- R5132 `vaadd.vx`: codec `v_r`. -/
def execVaaddVx (s : State) : Result := emit .vaaddVx .v_r s

/-- R5133 `vasubu.vv`: codec `v_r`. -/
def execVasubuVv (s : State) : Result := emit .vasubuVv .v_r s

/-- R5134 `vasubu.vx`: codec `v_r`. -/
def execVasubuVx (s : State) : Result := emit .vasubuVx .v_r s

/-- R5135 `vasub.vv`: codec `v_r`. -/
def execVasubVv (s : State) : Result := emit .vasubVv .v_r s

/-- R5136 `vasub.vx`: codec `v_r`. -/
def execVasubVx (s : State) : Result := emit .vasubVx .v_r s

/-- R5137 `vdivu.vv`: codec `v_r`. -/
def execVdivuVv (s : State) : Result := emit .vdivuVv .v_r s

/-- R5138 `vdivu.vx`: codec `v_r`. -/
def execVdivuVx (s : State) : Result := emit .vdivuVx .v_r s

/-- R5139 `vdiv.vv`: codec `v_r`. -/
def execVdivVv (s : State) : Result := emit .vdivVv .v_r s

/-- R5140 `vdiv.vx`: codec `v_r`. -/
def execVdivVx (s : State) : Result := emit .vdivVx .v_r s

/-- R5141 `vremu.vv`: codec `v_r`. -/
def execVremuVv (s : State) : Result := emit .vremuVv .v_r s

/-- R5142 `vremu.vx`: codec `v_r`. -/
def execVremuVx (s : State) : Result := emit .vremuVx .v_r s

/-- R5143 `vrem.vv`: codec `v_r`. -/
def execVremVv (s : State) : Result := emit .vremVv .v_r s

/-- R5144 `vrem.vx`: codec `v_r`. -/
def execVremVx (s : State) : Result := emit .vremVx .v_r s

/-- R5145 `vmulhu.vv`: codec `v_r`. -/
def execVmulhuVv (s : State) : Result := emit .vmulhuVv .v_r s

/-- R5146 `vmulhu.vx`: codec `v_r`. -/
def execVmulhuVx (s : State) : Result := emit .vmulhuVx .v_r s

/-- R5147 `vmul.vv`: codec `v_r`. -/
def execVmulVv (s : State) : Result := emit .vmulVv .v_r s

/-- R5148 `vmul.vx`: codec `v_r`. -/
def execVmulVx (s : State) : Result := emit .vmulVx .v_r s

/-- R5149 `vmulhsu.vv`: codec `v_r`. -/
def execVmulhsuVv (s : State) : Result := emit .vmulhsuVv .v_r s

/-- R5150 `vmulhsu.vx`: codec `v_r`. -/
def execVmulhsuVx (s : State) : Result := emit .vmulhsuVx .v_r s

/-- R5151 `vmulh.vv`: codec `v_r`. -/
def execVmulhVv (s : State) : Result := emit .vmulhVv .v_r s

/-- R5152 `vmulh.vx`: codec `v_r`. -/
def execVmulhVx (s : State) : Result := emit .vmulhVx .v_r s

/-- R5153 `vmadd.vv`: codec `v_r`. -/
def execVmaddVv (s : State) : Result := emit .vmaddVv .v_r s

/-- R5154 `vmadd.vx`: codec `v_r`. -/
def execVmaddVx (s : State) : Result := emit .vmaddVx .v_r s

/-- R5155 `vnmsub.vv`: codec `v_r`. -/
def execVnmsubVv (s : State) : Result := emit .vnmsubVv .v_r s

/-- R5156 `vnmsub.vx`: codec `v_r`. -/
def execVnmsubVx (s : State) : Result := emit .vnmsubVx .v_r s

/-- R5157 `vmacc.vv`: codec `v_r`. -/
def execVmaccVv (s : State) : Result := emit .vmaccVv .v_r s

/-- R5158 `vmacc.vx`: codec `v_r`. -/
def execVmaccVx (s : State) : Result := emit .vmaccVx .v_r s

/-- R5159 `vnmsac.vv`: codec `v_r`. -/
def execVnmsacVv (s : State) : Result := emit .vnmsacVv .v_r s

/-- R5160 `vnmsac.vx`: codec `v_r`. -/
def execVnmsacVx (s : State) : Result := emit .vnmsacVx .v_r s

/-- R5161 `vwaddu.vv`: codec `v_r`. -/
def execVwadduVv (s : State) : Result := emit .vwadduVv .v_r s

/-- R5162 `vwaddu.vx`: codec `v_r`; lifts to `vwcvtu.x.x.v`. -/
def execVwadduVx (s : State) : Result := emit .vwadduVx .v_r s

/-- R5163 `vwadd.vv`: codec `v_r`. -/
def execVwaddVv (s : State) : Result := emit .vwaddVv .v_r s

/-- R5164 `vwadd.vx`: codec `v_r`; lifts to `vwcvt.x.x.v`. -/
def execVwaddVx (s : State) : Result := emit .vwaddVx .v_r s

/-- R5165 `vwsubu.vv`: codec `v_r`. -/
def execVwsubuVv (s : State) : Result := emit .vwsubuVv .v_r s

/-- R5166 `vwsubu.vx`: codec `v_r`. -/
def execVwsubuVx (s : State) : Result := emit .vwsubuVx .v_r s

/-- R5167 `vwsub.vv`: codec `v_r`. -/
def execVwsubVv (s : State) : Result := emit .vwsubVv .v_r s

/-- R5168 `vwsub.vx`: codec `v_r`. -/
def execVwsubVx (s : State) : Result := emit .vwsubVx .v_r s

/-- R5169 `vwmulu.vv`: codec `v_r`. -/
def execVwmuluVv (s : State) : Result := emit .vwmuluVv .v_r s

/-- R5170 `vwmulu.vx`: codec `v_r`. -/
def execVwmuluVx (s : State) : Result := emit .vwmuluVx .v_r s

/-- R5171 `vwmulsu.vv`: codec `v_r`. -/
def execVwmulsuVv (s : State) : Result := emit .vwmulsuVv .v_r s

/-- R5172 `vwmulsu.vx`: codec `v_r`. -/
def execVwmulsuVx (s : State) : Result := emit .vwmulsuVx .v_r s

/-- R5173 `vwmul.vv`: codec `v_r`. -/
def execVwmulVv (s : State) : Result := emit .vwmulVv .v_r s

/-- R5174 `vwmul.vx`: codec `v_r`. -/
def execVwmulVx (s : State) : Result := emit .vwmulVx .v_r s

/-- R5175 `vwmaccu.vv`: codec `v_r`. -/
def execVwmaccuVv (s : State) : Result := emit .vwmaccuVv .v_r s

/-- R5176 `vwmaccu.vx`: codec `v_r`. -/
def execVwmaccuVx (s : State) : Result := emit .vwmaccuVx .v_r s

/-- R5177 `vwmacc.vv`: codec `v_r`. -/
def execVwmaccVv (s : State) : Result := emit .vwmaccVv .v_r s

/-- R5178 `vwmacc.vx`: codec `v_r`. -/
def execVwmaccVx (s : State) : Result := emit .vwmaccVx .v_r s

/-- R5179 `vwmaccus.vx`: codec `v_r`. -/
def execVwmaccusVx (s : State) : Result := emit .vwmaccusVx .v_r s

/-- R5180 `vwmaccsu.vv`: codec `v_r`. -/
def execVwmaccsuVv (s : State) : Result := emit .vwmaccsuVv .v_r s

/-- R5181 `vwmaccsu.vx`: codec `v_r`. -/
def execVwmaccsuVx (s : State) : Result := emit .vwmaccsuVx .v_r s

/-- R5182 `vwaddu.wv`: codec `v_r`. -/
def execVwadduWv (s : State) : Result := emit .vwadduWv .v_r s

/-- R5183 `vwaddu.wx`: codec `v_r`. -/
def execVwadduWx (s : State) : Result := emit .vwadduWx .v_r s

/-- R5184 `vwadd.wv`: codec `v_r`. -/
def execVwaddWv (s : State) : Result := emit .vwaddWv .v_r s

/-- R5185 `vwadd.wx`: codec `v_r`. -/
def execVwaddWx (s : State) : Result := emit .vwaddWx .v_r s

/-- R5186 `vwsubu.wv`: codec `v_r`. -/
def execVwsubuWv (s : State) : Result := emit .vwsubuWv .v_r s

/-- R5187 `vwsubu.wx`: codec `v_r`. -/
def execVwsubuWx (s : State) : Result := emit .vwsubuWx .v_r s

/-- R5188 `vwsub.wv`: codec `v_r`. -/
def execVwsubWv (s : State) : Result := emit .vwsubWv .v_r s

/-- R5189 `vwsub.wx`: codec `v_r`. -/
def execVwsubWx (s : State) : Result := emit .vwsubWx .v_r s

/-- R5190 `vslide1up.vx`: codec `v_r`. -/
def execVslide1upVx (s : State) : Result := emit .vslide1upVx .v_r s

/-- R5191 `vslide1down.vx`: codec `v_r`. -/
def execVslide1downVx (s : State) : Result := emit .vslide1downVx .v_r s

/-- R5192 `vmv.x.s`: codec `v_r2`. -/
def execVmvXS (s : State) : Result := emit .vmvXS .v_r2 s

/-- R5193 `vcpop.m`: codec `v_r2`. -/
def execVcpopM (s : State) : Result := emit .vcpopM .v_r2 s

/-- R5194 `vfirst.m`: codec `v_r2`. -/
def execVfirstM (s : State) : Result := emit .vfirstM .v_r2 s

/-- R5195 `vmv.s.x`: codec `v_r`. -/
def execVmvSX (s : State) : Result := emit .vmvSX .v_r s

/-- R5196 `vzext.vf8`: codec `v_r2`. -/
def execVzextVf8 (s : State) : Result := emit .vzextVf8 .v_r2 s

/-- R5197 `vsext.vf8`: codec `v_r2`. -/
def execVsextVf8 (s : State) : Result := emit .vsextVf8 .v_r2 s

/-- R5198 `vzext.vf4`: codec `v_r2`. -/
def execVzextVf4 (s : State) : Result := emit .vzextVf4 .v_r2 s

/-- R5199 `vsext.vf4`: codec `v_r2`. -/
def execVsextVf4 (s : State) : Result := emit .vsextVf4 .v_r2 s

/-- R5200 `vzext.vf2`: codec `v_r2`. -/
def execVzextVf2 (s : State) : Result := emit .vzextVf2 .v_r2 s

/-- R5201 `vsext.vf2`: codec `v_r2`. -/
def execVsextVf2 (s : State) : Result := emit .vsextVf2 .v_r2 s

/-- R5202 `vmsbf.m`: codec `v_r2`. -/
def execVmsbfM (s : State) : Result := emit .vmsbfM .v_r2 s

/-- R5203 `vmsof.m`: codec `v_r2`. -/
def execVmsofM (s : State) : Result := emit .vmsofM .v_r2 s

/-- R5204 `vmsif.m`: codec `v_r2`. -/
def execVmsifM (s : State) : Result := emit .vmsifM .v_r2 s

/-- R5205 `viota.m`: codec `v_r2`. -/
def execViotaM (s : State) : Result := emit .viotaM .v_r2 s

/-- R5206 `vid.v`: codec `v_rd`. -/
def execVidV (s : State) : Result := emit .vidV .v_rd s

/-- R5207 `vcompress.vm`: codec `v_r`. -/
def execVcompressVm (s : State) : Result := emit .vcompressVm .v_r s

/-- R5208 `vmandn.mm`: codec `v_r`. -/
def execVmandnMm (s : State) : Result := emit .vmandnMm .v_r s

/-- R5209 `vmand.mm`: codec `v_r`; lifts to `vmmv.m`. -/
def execVmandMm (s : State) : Result := emit .vmandMm .v_r s

/-- R5210 `vmor.mm`: codec `v_r`. -/
def execVmorMm (s : State) : Result := emit .vmorMm .v_r s

/-- R5211 `vmxor.mm`: codec `v_r`; lifts to `vmclr.m`. -/
def execVmxorMm (s : State) : Result := emit .vmxorMm .v_r s

/-- R5212 `vmorn.mm`: codec `v_r`. -/
def execVmornMm (s : State) : Result := emit .vmornMm .v_r s

/-- R5213 `vmnand.mm`: codec `v_r`; lifts to `vmnot.m`. -/
def execVmnandMm (s : State) : Result := emit .vmnandMm .v_r s

/-- R5214 `vmnor.mm`: codec `v_r`. -/
def execVmnorMm (s : State) : Result := emit .vmnorMm .v_r s

/-- R5215 `vmxnor.mm`: codec `v_r`; lifts to `vmset.m`. -/
def execVmxnorMm (s : State) : Result := emit .vmxnorMm .v_r s

/-- R5216 `vfadd.vv`: codec `v_r`. -/
def execVfaddVv (s : State) : Result := emit .vfaddVv .v_r s

/-- R5217 `vfadd.vf`: codec `v_r`. -/
def execVfaddVf (s : State) : Result := emit .vfaddVf .v_r s

/-- R5218 `vfsub.vv`: codec `v_r`. -/
def execVfsubVv (s : State) : Result := emit .vfsubVv .v_r s

/-- R5219 `vfsub.vf`: codec `v_r`. -/
def execVfsubVf (s : State) : Result := emit .vfsubVf .v_r s

/-- R5220 `vfmin.vv`: codec `v_r`. -/
def execVfminVv (s : State) : Result := emit .vfminVv .v_r s

/-- R5221 `vfmin.vf`: codec `v_r`. -/
def execVfminVf (s : State) : Result := emit .vfminVf .v_r s

/-- R5222 `vfmax.vv`: codec `v_r`. -/
def execVfmaxVv (s : State) : Result := emit .vfmaxVv .v_r s

/-- R5223 `vfmax.vf`: codec `v_r`. -/
def execVfmaxVf (s : State) : Result := emit .vfmaxVf .v_r s

/-- R5224 `vfsgnj.vv`: codec `v_r`. -/
def execVfsgnjVv (s : State) : Result := emit .vfsgnjVv .v_r s

/-- R5225 `vfsgnj.vf`: codec `v_r`. -/
def execVfsgnjVf (s : State) : Result := emit .vfsgnjVf .v_r s

/-- R5226 `vfsgnjn.vv`: codec `v_r`; lifts to `vfneg.v`. -/
def execVfsgnjnVv (s : State) : Result := emit .vfsgnjnVv .v_r s

/-- R5227 `vfsgnjn.vf`: codec `v_r`. -/
def execVfsgnjnVf (s : State) : Result := emit .vfsgnjnVf .v_r s

/-- R5228 `vfsgnjx.vv`: codec `v_r`; lifts to `vfabs.v`. -/
def execVfsgnjxVv (s : State) : Result := emit .vfsgnjxVv .v_r s

/-- R5229 `vfsgnjx.vf`: codec `v_r`. -/
def execVfsgnjxVf (s : State) : Result := emit .vfsgnjxVf .v_r s

/-- R5230 `vfslide1up.vf`: codec `v_r`. -/
def execVfslide1upVf (s : State) : Result := emit .vfslide1upVf .v_r s

/-- R5231 `vfslide1down.vf`: codec `v_r`. -/
def execVfslide1downVf (s : State) : Result := emit .vfslide1downVf .v_r s

/-- R5232 `vmfeq.vv`: codec `v_r`. -/
def execVmfeqVv (s : State) : Result := emit .vmfeqVv .v_r s

/-- R5233 `vmfeq.vf`: codec `v_r`. -/
def execVmfeqVf (s : State) : Result := emit .vmfeqVf .v_r s

/-- R5234 `vmfle.vv`: codec `v_r`. -/
def execVmfleVv (s : State) : Result := emit .vmfleVv .v_r s

/-- R5235 `vmfle.vf`: codec `v_r`. -/
def execVmfleVf (s : State) : Result := emit .vmfleVf .v_r s

/-- R5236 `vmflt.vv`: codec `v_r`. -/
def execVmfltVv (s : State) : Result := emit .vmfltVv .v_r s

/-- R5237 `vmflt.vf`: codec `v_r`. -/
def execVmfltVf (s : State) : Result := emit .vmfltVf .v_r s

/-- R5238 `vmfne.vv`: codec `v_r`. -/
def execVmfneVv (s : State) : Result := emit .vmfneVv .v_r s

/-- R5239 `vmfne.vf`: codec `v_r`. -/
def execVmfneVf (s : State) : Result := emit .vmfneVf .v_r s

/-- R5240 `vmfgt.vf`: codec `v_r`. -/
def execVmfgtVf (s : State) : Result := emit .vmfgtVf .v_r s

/-- R5241 `vmfge.vf`: codec `v_r`. -/
def execVmfgeVf (s : State) : Result := emit .vmfgeVf .v_r s

/-- R5242 `vfdiv.vv`: codec `v_r`. -/
def execVfdivVv (s : State) : Result := emit .vfdivVv .v_r s

/-- R5243 `vfdiv.vf`: codec `v_r`. -/
def execVfdivVf (s : State) : Result := emit .vfdivVf .v_r s

/-- R5244 `vfrdiv.vf`: codec `v_r`. -/
def execVfrdivVf (s : State) : Result := emit .vfrdivVf .v_r s

/-- R5245 `vfmul.vv`: codec `v_r`. -/
def execVfmulVv (s : State) : Result := emit .vfmulVv .v_r s

/-- R5246 `vfmul.vf`: codec `v_r`. -/
def execVfmulVf (s : State) : Result := emit .vfmulVf .v_r s

/-- R5247 `vfrsub.vf`: codec `v_r`. -/
def execVfrsubVf (s : State) : Result := emit .vfrsubVf .v_r s

/-- R5248 `vfmadd.vv`: codec `v_r`. -/
def execVfmaddVv (s : State) : Result := emit .vfmaddVv .v_r s

/-- R5249 `vfmadd.vf`: codec `v_r`. -/
def execVfmaddVf (s : State) : Result := emit .vfmaddVf .v_r s

/-- R5250 `vfnmadd.vv`: codec `v_r`. -/
def execVfnmaddVv (s : State) : Result := emit .vfnmaddVv .v_r s

/-- R5251 `vfnmadd.vf`: codec `v_r`. -/
def execVfnmaddVf (s : State) : Result := emit .vfnmaddVf .v_r s

/-- R5252 `vfmsub.vv`: codec `v_r`. -/
def execVfmsubVv (s : State) : Result := emit .vfmsubVv .v_r s

/-- R5253 `vfmsub.vf`: codec `v_r`. -/
def execVfmsubVf (s : State) : Result := emit .vfmsubVf .v_r s

/-- R5254 `vfnmsub.vv`: codec `v_r`. -/
def execVfnmsubVv (s : State) : Result := emit .vfnmsubVv .v_r s

/-- R5255 `vfnmsub.vf`: codec `v_r`. -/
def execVfnmsubVf (s : State) : Result := emit .vfnmsubVf .v_r s

/-- R5256 `vfmacc.vv`: codec `v_r`. -/
def execVfmaccVv (s : State) : Result := emit .vfmaccVv .v_r s

/-- R5257 `vfmacc.vf`: codec `v_r`. -/
def execVfmaccVf (s : State) : Result := emit .vfmaccVf .v_r s

/-- R5258 `vfnmacc.vv`: codec `v_r`. -/
def execVfnmaccVv (s : State) : Result := emit .vfnmaccVv .v_r s

/-- R5259 `vfnmacc.vf`: codec `v_r`. -/
def execVfnmaccVf (s : State) : Result := emit .vfnmaccVf .v_r s

/-- R5260 `vfmsac.vv`: codec `v_r`. -/
def execVfmsacVv (s : State) : Result := emit .vfmsacVv .v_r s

/-- R5261 `vfmsac.vf`: codec `v_r`. -/
def execVfmsacVf (s : State) : Result := emit .vfmsacVf .v_r s

/-- R5262 `vfnmsac.vv`: codec `v_r`. -/
def execVfnmsacVv (s : State) : Result := emit .vfnmsacVv .v_r s

/-- R5263 `vfnmsac.vf`: codec `v_r`. -/
def execVfnmsacVf (s : State) : Result := emit .vfnmsacVf .v_r s

/-- R5264 `vfwadd.vv`: codec `v_r`. -/
def execVfwaddVv (s : State) : Result := emit .vfwaddVv .v_r s

/-- R5265 `vfwadd.vf`: codec `v_r`. -/
def execVfwaddVf (s : State) : Result := emit .vfwaddVf .v_r s

/-- R5266 `vfwsub.vv`: codec `v_r`. -/
def execVfwsubVv (s : State) : Result := emit .vfwsubVv .v_r s

/-- R5267 `vfwsub.vf`: codec `v_r`. -/
def execVfwsubVf (s : State) : Result := emit .vfwsubVf .v_r s

/-- R5268 `vfwmul.vv`: codec `v_r`. -/
def execVfwmulVv (s : State) : Result := emit .vfwmulVv .v_r s

/-- R5269 `vfwmul.vf`: codec `v_r`. -/
def execVfwmulVf (s : State) : Result := emit .vfwmulVf .v_r s

/-- R5270 `vfwmacc.vv`: codec `v_r`. -/
def execVfwmaccVv (s : State) : Result := emit .vfwmaccVv .v_r s

/-- R5271 `vfwmacc.vf`: codec `v_r`. -/
def execVfwmaccVf (s : State) : Result := emit .vfwmaccVf .v_r s

/-- R5272 `vfwnmacc.vv`: codec `v_r`. -/
def execVfwnmaccVv (s : State) : Result := emit .vfwnmaccVv .v_r s

/-- R5273 `vfwnmacc.vf`: codec `v_r`. -/
def execVfwnmaccVf (s : State) : Result := emit .vfwnmaccVf .v_r s

/-- R5274 `vfwmsac.vv`: codec `v_r`. -/
def execVfwmsacVv (s : State) : Result := emit .vfwmsacVv .v_r s

/-- R5275 `vfwmsac.vf`: codec `v_r`. -/
def execVfwmsacVf (s : State) : Result := emit .vfwmsacVf .v_r s

/-- R5276 `vfwnmsac.vv`: codec `v_r`. -/
def execVfwnmsacVv (s : State) : Result := emit .vfwnmsacVv .v_r s

/-- R5277 `vfwnmsac.vf`: codec `v_r`. -/
def execVfwnmsacVf (s : State) : Result := emit .vfwnmsacVf .v_r s

/-- R5278 `vfredusum.vs`: codec `v_r`. -/
def execVfredusumVs (s : State) : Result := emit .vfredusumVs .v_r s

/-- R5279 `vfredosum.vs`: codec `v_r`. -/
def execVfredosumVs (s : State) : Result := emit .vfredosumVs .v_r s

/-- R5280 `vfredmin.vs`: codec `v_r`. -/
def execVfredminVs (s : State) : Result := emit .vfredminVs .v_r s

/-- R5281 `vfredmax.vs`: codec `v_r`. -/
def execVfredmaxVs (s : State) : Result := emit .vfredmaxVs .v_r s

/-- R5282 `vfwredusum.vs`: codec `v_r`. -/
def execVfwredusumVs (s : State) : Result := emit .vfwredusumVs .v_r s

/-- R5283 `vfwredosum.vs`: codec `v_r`. -/
def execVfwredosumVs (s : State) : Result := emit .vfwredosumVs .v_r s

/-- R5284 `vfwadd.wv`: codec `v_r`. -/
def execVfwaddWv (s : State) : Result := emit .vfwaddWv .v_r s

/-- R5285 `vfwadd.wf`: codec `v_r`. -/
def execVfwaddWf (s : State) : Result := emit .vfwaddWf .v_r s

/-- R5286 `vfwsub.wv`: codec `v_r`. -/
def execVfwsubWv (s : State) : Result := emit .vfwsubWv .v_r s

/-- R5287 `vfwsub.wf`: codec `v_r`. -/
def execVfwsubWf (s : State) : Result := emit .vfwsubWf .v_r s

/-- R5288 `vfmv.f.s`: codec `v_r2`. -/
def execVfmvFS (s : State) : Result := emit .vfmvFS .v_r2 s

/-- R5289 `vfmv.s.f`: codec `v_r`. -/
def execVfmvSF (s : State) : Result := emit .vfmvSF .v_r s

/-- R5290 `vfcvt.xu.f.v`: codec `v_r2`. -/
def execVfcvtXuFV (s : State) : Result := emit .vfcvtXuFV .v_r2 s

/-- R5291 `vfcvt.x.f.v`: codec `v_r2`. -/
def execVfcvtXFV (s : State) : Result := emit .vfcvtXFV .v_r2 s

/-- R5292 `vfcvt.f.xu.v`: codec `v_r2`. -/
def execVfcvtFXuV (s : State) : Result := emit .vfcvtFXuV .v_r2 s

/-- R5293 `vfcvt.f.x.v`: codec `v_r2`. -/
def execVfcvtFXV (s : State) : Result := emit .vfcvtFXV .v_r2 s

/-- R5294 `vfcvt.rtz.xu.f.v`: codec `v_r2`. -/
def execVfcvtRtzXuFV (s : State) : Result := emit .vfcvtRtzXuFV .v_r2 s

/-- R5295 `vfcvt.rtz.x.f.v`: codec `v_r2`. -/
def execVfcvtRtzXFV (s : State) : Result := emit .vfcvtRtzXFV .v_r2 s

/-- R5296 `vfwcvt.xu.f.v`: codec `v_r2`. -/
def execVfwcvtXuFV (s : State) : Result := emit .vfwcvtXuFV .v_r2 s

/-- R5297 `vfwcvt.x.f.v`: codec `v_r2`. -/
def execVfwcvtXFV (s : State) : Result := emit .vfwcvtXFV .v_r2 s

/-- R5298 `vfwcvt.f.xu.v`: codec `v_r2`. -/
def execVfwcvtFXuV (s : State) : Result := emit .vfwcvtFXuV .v_r2 s

/-- R5299 `vfwcvt.f.x.v`: codec `v_r2`. -/
def execVfwcvtFXV (s : State) : Result := emit .vfwcvtFXV .v_r2 s

/-- R5300 `vfwcvt.f.f.v`: codec `v_r2`. -/
def execVfwcvtFFV (s : State) : Result := emit .vfwcvtFFV .v_r2 s

/-- R5301 `vfwcvt.rtz.xu.f.v`: codec `v_r2`. -/
def execVfwcvtRtzXuFV (s : State) : Result := emit .vfwcvtRtzXuFV .v_r2 s

/-- R5302 `vfwcvt.rtz.x.f.v`: codec `v_r2`. -/
def execVfwcvtRtzXFV (s : State) : Result := emit .vfwcvtRtzXFV .v_r2 s

/-- R5303 `vfncvt.xu.f.w`: codec `v_r2`. -/
def execVfncvtXuFW (s : State) : Result := emit .vfncvtXuFW .v_r2 s

/-- R5304 `vfncvt.x.f.w`: codec `v_r2`. -/
def execVfncvtXFW (s : State) : Result := emit .vfncvtXFW .v_r2 s

/-- R5305 `vfncvt.f.xu.w`: codec `v_r2`. -/
def execVfncvtFXuW (s : State) : Result := emit .vfncvtFXuW .v_r2 s

/-- R5306 `vfncvt.f.x.w`: codec `v_r2`. -/
def execVfncvtFXW (s : State) : Result := emit .vfncvtFXW .v_r2 s

/-- R5307 `vfncvt.f.f.w`: codec `v_r2`. -/
def execVfncvtFFW (s : State) : Result := emit .vfncvtFFW .v_r2 s

/-- R5308 `vfncvt.rod.f.f.w`: codec `v_r2`. -/
def execVfncvtRodFFW (s : State) : Result := emit .vfncvtRodFFW .v_r2 s

/-- R5309 `vfncvt.rtz.xu.f.w`: codec `v_r2`. -/
def execVfncvtRtzXuFW (s : State) : Result := emit .vfncvtRtzXuFW .v_r2 s

/-- R5310 `vfncvt.rtz.x.f.w`: codec `v_r2`. -/
def execVfncvtRtzXFW (s : State) : Result := emit .vfncvtRtzXFW .v_r2 s

/-- R5311 `vfsqrt.v`: codec `v_r2`. -/
def execVfsqrtV (s : State) : Result := emit .vfsqrtV .v_r2 s

/-- R5312 `vfrsqrt7.v`: codec `v_r2`. -/
def execVfrsqrt7V (s : State) : Result := emit .vfrsqrt7V .v_r2 s

/-- R5313 `vfrec7.v`: codec `v_r2`. -/
def execVfrec7V (s : State) : Result := emit .vfrec7V .v_r2 s

/-- R5314 `vfclass.v`: codec `v_r2`. -/
def execVfclassV (s : State) : Result := emit .vfclassV .v_r2 s

/-- R5315 `vfmerge.vfm`: codec `v_r`. -/
def execVfmergeVfm (s : State) : Result := emit .vfmergeVfm .v_r s

/-- R5316 `vfmv.v.f`: codec `v_r`. -/
def execVfmvVF (s : State) : Result := emit .vfmvVF .v_r s

end Sys2Proof.Machine
end

