-- ==== Sys2Proof/Machine/VectorLdst.lean ====
section
/-! DEFINITION. Machine/VectorLdst.lean: the meanings of the vector load and store opcodes (46_vector_ldst): each is the decode result the
block produces for the opcode (00_scope.md R7, 40_pipeline.md R200). -/

namespace Sys2Proof.Machine

/-- R6000 `vle8.v`: codec `v_ldst_u`. -/
def execVle8V (s : State) : Result := emit .vle8V .v_ldst_u s

/-- R6001 `vle8ff.v`: codec `v_ldst_u`. -/
def execVle8ffV (s : State) : Result := emit .vle8ffV .v_ldst_u s

/-- R6002 `vse8.v`: codec `v_ldst_u`. -/
def execVse8V (s : State) : Result := emit .vse8V .v_ldst_u s

/-- R6003 `vlse8.v`: codec `v_ldst`. -/
def execVlse8V (s : State) : Result := emit .vlse8V .v_ldst s

/-- R6004 `vsse8.v`: codec `v_ldst`. -/
def execVsse8V (s : State) : Result := emit .vsse8V .v_ldst s

/-- R6005 `vluxei8.v`: codec `v_ldst`. -/
def execVluxei8V (s : State) : Result := emit .vluxei8V .v_ldst s

/-- R6006 `vsuxei8.v`: codec `v_ldst`. -/
def execVsuxei8V (s : State) : Result := emit .vsuxei8V .v_ldst s

/-- R6007 `vloxei8.v`: codec `v_ldst`. -/
def execVloxei8V (s : State) : Result := emit .vloxei8V .v_ldst s

/-- R6008 `vsoxei8.v`: codec `v_ldst`. -/
def execVsoxei8V (s : State) : Result := emit .vsoxei8V .v_ldst s

/-- R6009 `vlseg2e8.v`: codec `v_ldst_u`. -/
def execVlseg2e8V (s : State) : Result := emit .vlseg2e8V .v_ldst_u s

/-- R6010 `vlseg2e8ff.v`: codec `v_ldst_u`. -/
def execVlseg2e8ffV (s : State) : Result := emit .vlseg2e8ffV .v_ldst_u s

/-- R6011 `vsseg2e8.v`: codec `v_ldst_u`. -/
def execVsseg2e8V (s : State) : Result := emit .vsseg2e8V .v_ldst_u s

/-- R6012 `vlsseg2e8.v`: codec `v_ldst`. -/
def execVlsseg2e8V (s : State) : Result := emit .vlsseg2e8V .v_ldst s

/-- R6013 `vssseg2e8.v`: codec `v_ldst`. -/
def execVssseg2e8V (s : State) : Result := emit .vssseg2e8V .v_ldst s

/-- R6014 `vluxseg2ei8.v`: codec `v_ldst`. -/
def execVluxseg2ei8V (s : State) : Result := emit .vluxseg2ei8V .v_ldst s

/-- R6015 `vsuxseg2ei8.v`: codec `v_ldst`. -/
def execVsuxseg2ei8V (s : State) : Result := emit .vsuxseg2ei8V .v_ldst s

/-- R6016 `vloxseg2ei8.v`: codec `v_ldst`. -/
def execVloxseg2ei8V (s : State) : Result := emit .vloxseg2ei8V .v_ldst s

/-- R6017 `vsoxseg2ei8.v`: codec `v_ldst`. -/
def execVsoxseg2ei8V (s : State) : Result := emit .vsoxseg2ei8V .v_ldst s

/-- R6018 `vlseg3e8.v`: codec `v_ldst_u`. -/
def execVlseg3e8V (s : State) : Result := emit .vlseg3e8V .v_ldst_u s

/-- R6019 `vlseg3e8ff.v`: codec `v_ldst_u`. -/
def execVlseg3e8ffV (s : State) : Result := emit .vlseg3e8ffV .v_ldst_u s

/-- R6020 `vsseg3e8.v`: codec `v_ldst_u`. -/
def execVsseg3e8V (s : State) : Result := emit .vsseg3e8V .v_ldst_u s

/-- R6021 `vlsseg3e8.v`: codec `v_ldst`. -/
def execVlsseg3e8V (s : State) : Result := emit .vlsseg3e8V .v_ldst s

/-- R6022 `vssseg3e8.v`: codec `v_ldst`. -/
def execVssseg3e8V (s : State) : Result := emit .vssseg3e8V .v_ldst s

/-- R6023 `vluxseg3ei8.v`: codec `v_ldst`. -/
def execVluxseg3ei8V (s : State) : Result := emit .vluxseg3ei8V .v_ldst s

/-- R6024 `vsuxseg3ei8.v`: codec `v_ldst`. -/
def execVsuxseg3ei8V (s : State) : Result := emit .vsuxseg3ei8V .v_ldst s

/-- R6025 `vloxseg3ei8.v`: codec `v_ldst`. -/
def execVloxseg3ei8V (s : State) : Result := emit .vloxseg3ei8V .v_ldst s

/-- R6026 `vsoxseg3ei8.v`: codec `v_ldst`. -/
def execVsoxseg3ei8V (s : State) : Result := emit .vsoxseg3ei8V .v_ldst s

/-- R6027 `vlseg4e8.v`: codec `v_ldst_u`. -/
def execVlseg4e8V (s : State) : Result := emit .vlseg4e8V .v_ldst_u s

/-- R6028 `vlseg4e8ff.v`: codec `v_ldst_u`. -/
def execVlseg4e8ffV (s : State) : Result := emit .vlseg4e8ffV .v_ldst_u s

/-- R6029 `vsseg4e8.v`: codec `v_ldst_u`. -/
def execVsseg4e8V (s : State) : Result := emit .vsseg4e8V .v_ldst_u s

/-- R6030 `vlsseg4e8.v`: codec `v_ldst`. -/
def execVlsseg4e8V (s : State) : Result := emit .vlsseg4e8V .v_ldst s

/-- R6031 `vssseg4e8.v`: codec `v_ldst`. -/
def execVssseg4e8V (s : State) : Result := emit .vssseg4e8V .v_ldst s

/-- R6032 `vluxseg4ei8.v`: codec `v_ldst`. -/
def execVluxseg4ei8V (s : State) : Result := emit .vluxseg4ei8V .v_ldst s

/-- R6033 `vsuxseg4ei8.v`: codec `v_ldst`. -/
def execVsuxseg4ei8V (s : State) : Result := emit .vsuxseg4ei8V .v_ldst s

/-- R6034 `vloxseg4ei8.v`: codec `v_ldst`. -/
def execVloxseg4ei8V (s : State) : Result := emit .vloxseg4ei8V .v_ldst s

/-- R6035 `vsoxseg4ei8.v`: codec `v_ldst`. -/
def execVsoxseg4ei8V (s : State) : Result := emit .vsoxseg4ei8V .v_ldst s

/-- R6036 `vlseg5e8.v`: codec `v_ldst_u`. -/
def execVlseg5e8V (s : State) : Result := emit .vlseg5e8V .v_ldst_u s

/-- R6037 `vlseg5e8ff.v`: codec `v_ldst_u`. -/
def execVlseg5e8ffV (s : State) : Result := emit .vlseg5e8ffV .v_ldst_u s

/-- R6038 `vsseg5e8.v`: codec `v_ldst_u`. -/
def execVsseg5e8V (s : State) : Result := emit .vsseg5e8V .v_ldst_u s

/-- R6039 `vlsseg5e8.v`: codec `v_ldst`. -/
def execVlsseg5e8V (s : State) : Result := emit .vlsseg5e8V .v_ldst s

/-- R6040 `vssseg5e8.v`: codec `v_ldst`. -/
def execVssseg5e8V (s : State) : Result := emit .vssseg5e8V .v_ldst s

/-- R6041 `vluxseg5ei8.v`: codec `v_ldst`. -/
def execVluxseg5ei8V (s : State) : Result := emit .vluxseg5ei8V .v_ldst s

/-- R6042 `vsuxseg5ei8.v`: codec `v_ldst`. -/
def execVsuxseg5ei8V (s : State) : Result := emit .vsuxseg5ei8V .v_ldst s

/-- R6043 `vloxseg5ei8.v`: codec `v_ldst`. -/
def execVloxseg5ei8V (s : State) : Result := emit .vloxseg5ei8V .v_ldst s

/-- R6044 `vsoxseg5ei8.v`: codec `v_ldst`. -/
def execVsoxseg5ei8V (s : State) : Result := emit .vsoxseg5ei8V .v_ldst s

/-- R6045 `vlseg6e8.v`: codec `v_ldst_u`. -/
def execVlseg6e8V (s : State) : Result := emit .vlseg6e8V .v_ldst_u s

/-- R6046 `vlseg6e8ff.v`: codec `v_ldst_u`. -/
def execVlseg6e8ffV (s : State) : Result := emit .vlseg6e8ffV .v_ldst_u s

/-- R6047 `vsseg6e8.v`: codec `v_ldst_u`. -/
def execVsseg6e8V (s : State) : Result := emit .vsseg6e8V .v_ldst_u s

/-- R6048 `vlsseg6e8.v`: codec `v_ldst`. -/
def execVlsseg6e8V (s : State) : Result := emit .vlsseg6e8V .v_ldst s

/-- R6049 `vssseg6e8.v`: codec `v_ldst`. -/
def execVssseg6e8V (s : State) : Result := emit .vssseg6e8V .v_ldst s

/-- R6050 `vluxseg6ei8.v`: codec `v_ldst`. -/
def execVluxseg6ei8V (s : State) : Result := emit .vluxseg6ei8V .v_ldst s

/-- R6051 `vsuxseg6ei8.v`: codec `v_ldst`. -/
def execVsuxseg6ei8V (s : State) : Result := emit .vsuxseg6ei8V .v_ldst s

/-- R6052 `vloxseg6ei8.v`: codec `v_ldst`. -/
def execVloxseg6ei8V (s : State) : Result := emit .vloxseg6ei8V .v_ldst s

/-- R6053 `vsoxseg6ei8.v`: codec `v_ldst`. -/
def execVsoxseg6ei8V (s : State) : Result := emit .vsoxseg6ei8V .v_ldst s

/-- R6054 `vlseg7e8.v`: codec `v_ldst_u`. -/
def execVlseg7e8V (s : State) : Result := emit .vlseg7e8V .v_ldst_u s

/-- R6055 `vlseg7e8ff.v`: codec `v_ldst_u`. -/
def execVlseg7e8ffV (s : State) : Result := emit .vlseg7e8ffV .v_ldst_u s

/-- R6056 `vsseg7e8.v`: codec `v_ldst_u`. -/
def execVsseg7e8V (s : State) : Result := emit .vsseg7e8V .v_ldst_u s

/-- R6057 `vlsseg7e8.v`: codec `v_ldst`. -/
def execVlsseg7e8V (s : State) : Result := emit .vlsseg7e8V .v_ldst s

/-- R6058 `vssseg7e8.v`: codec `v_ldst`. -/
def execVssseg7e8V (s : State) : Result := emit .vssseg7e8V .v_ldst s

/-- R6059 `vluxseg7ei8.v`: codec `v_ldst`. -/
def execVluxseg7ei8V (s : State) : Result := emit .vluxseg7ei8V .v_ldst s

/-- R6060 `vsuxseg7ei8.v`: codec `v_ldst`. -/
def execVsuxseg7ei8V (s : State) : Result := emit .vsuxseg7ei8V .v_ldst s

/-- R6061 `vloxseg7ei8.v`: codec `v_ldst`. -/
def execVloxseg7ei8V (s : State) : Result := emit .vloxseg7ei8V .v_ldst s

/-- R6062 `vsoxseg7ei8.v`: codec `v_ldst`. -/
def execVsoxseg7ei8V (s : State) : Result := emit .vsoxseg7ei8V .v_ldst s

/-- R6063 `vlseg8e8.v`: codec `v_ldst_u`. -/
def execVlseg8e8V (s : State) : Result := emit .vlseg8e8V .v_ldst_u s

/-- R6064 `vlseg8e8ff.v`: codec `v_ldst_u`. -/
def execVlseg8e8ffV (s : State) : Result := emit .vlseg8e8ffV .v_ldst_u s

/-- R6065 `vsseg8e8.v`: codec `v_ldst_u`. -/
def execVsseg8e8V (s : State) : Result := emit .vsseg8e8V .v_ldst_u s

/-- R6066 `vlsseg8e8.v`: codec `v_ldst`. -/
def execVlsseg8e8V (s : State) : Result := emit .vlsseg8e8V .v_ldst s

/-- R6067 `vssseg8e8.v`: codec `v_ldst`. -/
def execVssseg8e8V (s : State) : Result := emit .vssseg8e8V .v_ldst s

/-- R6068 `vluxseg8ei8.v`: codec `v_ldst`. -/
def execVluxseg8ei8V (s : State) : Result := emit .vluxseg8ei8V .v_ldst s

/-- R6069 `vsuxseg8ei8.v`: codec `v_ldst`. -/
def execVsuxseg8ei8V (s : State) : Result := emit .vsuxseg8ei8V .v_ldst s

/-- R6070 `vloxseg8ei8.v`: codec `v_ldst`. -/
def execVloxseg8ei8V (s : State) : Result := emit .vloxseg8ei8V .v_ldst s

/-- R6071 `vsoxseg8ei8.v`: codec `v_ldst`. -/
def execVsoxseg8ei8V (s : State) : Result := emit .vsoxseg8ei8V .v_ldst s

/-- R6072 `vl1re8.v`: codec `v_ldst_u`. -/
def execVl1re8V (s : State) : Result := emit .vl1re8V .v_ldst_u s

/-- R6073 `vl2re8.v`: codec `v_ldst_u`. -/
def execVl2re8V (s : State) : Result := emit .vl2re8V .v_ldst_u s

/-- R6074 `vl4re8.v`: codec `v_ldst_u`. -/
def execVl4re8V (s : State) : Result := emit .vl4re8V .v_ldst_u s

/-- R6075 `vl8re8.v`: codec `v_ldst_u`. -/
def execVl8re8V (s : State) : Result := emit .vl8re8V .v_ldst_u s

/-- R6076 `vle16.v`: codec `v_ldst_u`. -/
def execVle16V (s : State) : Result := emit .vle16V .v_ldst_u s

/-- R6077 `vle16ff.v`: codec `v_ldst_u`. -/
def execVle16ffV (s : State) : Result := emit .vle16ffV .v_ldst_u s

/-- R6078 `vse16.v`: codec `v_ldst_u`. -/
def execVse16V (s : State) : Result := emit .vse16V .v_ldst_u s

/-- R6079 `vlse16.v`: codec `v_ldst`. -/
def execVlse16V (s : State) : Result := emit .vlse16V .v_ldst s

/-- R6080 `vsse16.v`: codec `v_ldst`. -/
def execVsse16V (s : State) : Result := emit .vsse16V .v_ldst s

/-- R6081 `vluxei16.v`: codec `v_ldst`. -/
def execVluxei16V (s : State) : Result := emit .vluxei16V .v_ldst s

/-- R6082 `vsuxei16.v`: codec `v_ldst`. -/
def execVsuxei16V (s : State) : Result := emit .vsuxei16V .v_ldst s

/-- R6083 `vloxei16.v`: codec `v_ldst`. -/
def execVloxei16V (s : State) : Result := emit .vloxei16V .v_ldst s

/-- R6084 `vsoxei16.v`: codec `v_ldst`. -/
def execVsoxei16V (s : State) : Result := emit .vsoxei16V .v_ldst s

/-- R6085 `vlseg2e16.v`: codec `v_ldst_u`. -/
def execVlseg2e16V (s : State) : Result := emit .vlseg2e16V .v_ldst_u s

/-- R6086 `vlseg2e16ff.v`: codec `v_ldst_u`. -/
def execVlseg2e16ffV (s : State) : Result := emit .vlseg2e16ffV .v_ldst_u s

/-- R6087 `vsseg2e16.v`: codec `v_ldst_u`. -/
def execVsseg2e16V (s : State) : Result := emit .vsseg2e16V .v_ldst_u s

/-- R6088 `vlsseg2e16.v`: codec `v_ldst`. -/
def execVlsseg2e16V (s : State) : Result := emit .vlsseg2e16V .v_ldst s

/-- R6089 `vssseg2e16.v`: codec `v_ldst`. -/
def execVssseg2e16V (s : State) : Result := emit .vssseg2e16V .v_ldst s

/-- R6090 `vluxseg2ei16.v`: codec `v_ldst`. -/
def execVluxseg2ei16V (s : State) : Result := emit .vluxseg2ei16V .v_ldst s

/-- R6091 `vsuxseg2ei16.v`: codec `v_ldst`. -/
def execVsuxseg2ei16V (s : State) : Result := emit .vsuxseg2ei16V .v_ldst s

/-- R6092 `vloxseg2ei16.v`: codec `v_ldst`. -/
def execVloxseg2ei16V (s : State) : Result := emit .vloxseg2ei16V .v_ldst s

/-- R6093 `vsoxseg2ei16.v`: codec `v_ldst`. -/
def execVsoxseg2ei16V (s : State) : Result := emit .vsoxseg2ei16V .v_ldst s

/-- R6094 `vlseg3e16.v`: codec `v_ldst_u`. -/
def execVlseg3e16V (s : State) : Result := emit .vlseg3e16V .v_ldst_u s

/-- R6095 `vlseg3e16ff.v`: codec `v_ldst_u`. -/
def execVlseg3e16ffV (s : State) : Result := emit .vlseg3e16ffV .v_ldst_u s

/-- R6096 `vsseg3e16.v`: codec `v_ldst_u`. -/
def execVsseg3e16V (s : State) : Result := emit .vsseg3e16V .v_ldst_u s

/-- R6097 `vlsseg3e16.v`: codec `v_ldst`. -/
def execVlsseg3e16V (s : State) : Result := emit .vlsseg3e16V .v_ldst s

/-- R6098 `vssseg3e16.v`: codec `v_ldst`. -/
def execVssseg3e16V (s : State) : Result := emit .vssseg3e16V .v_ldst s

/-- R6099 `vluxseg3ei16.v`: codec `v_ldst`. -/
def execVluxseg3ei16V (s : State) : Result := emit .vluxseg3ei16V .v_ldst s

/-- R6100 `vsuxseg3ei16.v`: codec `v_ldst`. -/
def execVsuxseg3ei16V (s : State) : Result := emit .vsuxseg3ei16V .v_ldst s

/-- R6101 `vloxseg3ei16.v`: codec `v_ldst`. -/
def execVloxseg3ei16V (s : State) : Result := emit .vloxseg3ei16V .v_ldst s

/-- R6102 `vsoxseg3ei16.v`: codec `v_ldst`. -/
def execVsoxseg3ei16V (s : State) : Result := emit .vsoxseg3ei16V .v_ldst s

/-- R6103 `vlseg4e16.v`: codec `v_ldst_u`. -/
def execVlseg4e16V (s : State) : Result := emit .vlseg4e16V .v_ldst_u s

/-- R6104 `vlseg4e16ff.v`: codec `v_ldst_u`. -/
def execVlseg4e16ffV (s : State) : Result := emit .vlseg4e16ffV .v_ldst_u s

/-- R6105 `vsseg4e16.v`: codec `v_ldst_u`. -/
def execVsseg4e16V (s : State) : Result := emit .vsseg4e16V .v_ldst_u s

/-- R6106 `vlsseg4e16.v`: codec `v_ldst`. -/
def execVlsseg4e16V (s : State) : Result := emit .vlsseg4e16V .v_ldst s

/-- R6107 `vssseg4e16.v`: codec `v_ldst`. -/
def execVssseg4e16V (s : State) : Result := emit .vssseg4e16V .v_ldst s

/-- R6108 `vluxseg4ei16.v`: codec `v_ldst`. -/
def execVluxseg4ei16V (s : State) : Result := emit .vluxseg4ei16V .v_ldst s

/-- R6109 `vsuxseg4ei16.v`: codec `v_ldst`. -/
def execVsuxseg4ei16V (s : State) : Result := emit .vsuxseg4ei16V .v_ldst s

/-- R6110 `vloxseg4ei16.v`: codec `v_ldst`. -/
def execVloxseg4ei16V (s : State) : Result := emit .vloxseg4ei16V .v_ldst s

/-- R6111 `vsoxseg4ei16.v`: codec `v_ldst`. -/
def execVsoxseg4ei16V (s : State) : Result := emit .vsoxseg4ei16V .v_ldst s

/-- R6112 `vlseg5e16.v`: codec `v_ldst_u`. -/
def execVlseg5e16V (s : State) : Result := emit .vlseg5e16V .v_ldst_u s

/-- R6113 `vlseg5e16ff.v`: codec `v_ldst_u`. -/
def execVlseg5e16ffV (s : State) : Result := emit .vlseg5e16ffV .v_ldst_u s

/-- R6114 `vsseg5e16.v`: codec `v_ldst_u`. -/
def execVsseg5e16V (s : State) : Result := emit .vsseg5e16V .v_ldst_u s

/-- R6115 `vlsseg5e16.v`: codec `v_ldst`. -/
def execVlsseg5e16V (s : State) : Result := emit .vlsseg5e16V .v_ldst s

/-- R6116 `vssseg5e16.v`: codec `v_ldst`. -/
def execVssseg5e16V (s : State) : Result := emit .vssseg5e16V .v_ldst s

/-- R6117 `vluxseg5ei16.v`: codec `v_ldst`. -/
def execVluxseg5ei16V (s : State) : Result := emit .vluxseg5ei16V .v_ldst s

/-- R6118 `vsuxseg5ei16.v`: codec `v_ldst`. -/
def execVsuxseg5ei16V (s : State) : Result := emit .vsuxseg5ei16V .v_ldst s

/-- R6119 `vloxseg5ei16.v`: codec `v_ldst`. -/
def execVloxseg5ei16V (s : State) : Result := emit .vloxseg5ei16V .v_ldst s

/-- R6120 `vsoxseg5ei16.v`: codec `v_ldst`. -/
def execVsoxseg5ei16V (s : State) : Result := emit .vsoxseg5ei16V .v_ldst s

/-- R6121 `vlseg6e16.v`: codec `v_ldst_u`. -/
def execVlseg6e16V (s : State) : Result := emit .vlseg6e16V .v_ldst_u s

/-- R6122 `vlseg6e16ff.v`: codec `v_ldst_u`. -/
def execVlseg6e16ffV (s : State) : Result := emit .vlseg6e16ffV .v_ldst_u s

/-- R6123 `vsseg6e16.v`: codec `v_ldst_u`. -/
def execVsseg6e16V (s : State) : Result := emit .vsseg6e16V .v_ldst_u s

/-- R6124 `vlsseg6e16.v`: codec `v_ldst`. -/
def execVlsseg6e16V (s : State) : Result := emit .vlsseg6e16V .v_ldst s

/-- R6125 `vssseg6e16.v`: codec `v_ldst`. -/
def execVssseg6e16V (s : State) : Result := emit .vssseg6e16V .v_ldst s

/-- R6126 `vluxseg6ei16.v`: codec `v_ldst`. -/
def execVluxseg6ei16V (s : State) : Result := emit .vluxseg6ei16V .v_ldst s

/-- R6127 `vsuxseg6ei16.v`: codec `v_ldst`. -/
def execVsuxseg6ei16V (s : State) : Result := emit .vsuxseg6ei16V .v_ldst s

/-- R6128 `vloxseg6ei16.v`: codec `v_ldst`. -/
def execVloxseg6ei16V (s : State) : Result := emit .vloxseg6ei16V .v_ldst s

/-- R6129 `vsoxseg6ei16.v`: codec `v_ldst`. -/
def execVsoxseg6ei16V (s : State) : Result := emit .vsoxseg6ei16V .v_ldst s

/-- R6130 `vlseg7e16.v`: codec `v_ldst_u`. -/
def execVlseg7e16V (s : State) : Result := emit .vlseg7e16V .v_ldst_u s

/-- R6131 `vlseg7e16ff.v`: codec `v_ldst_u`. -/
def execVlseg7e16ffV (s : State) : Result := emit .vlseg7e16ffV .v_ldst_u s

/-- R6132 `vsseg7e16.v`: codec `v_ldst_u`. -/
def execVsseg7e16V (s : State) : Result := emit .vsseg7e16V .v_ldst_u s

/-- R6133 `vlsseg7e16.v`: codec `v_ldst`. -/
def execVlsseg7e16V (s : State) : Result := emit .vlsseg7e16V .v_ldst s

/-- R6134 `vssseg7e16.v`: codec `v_ldst`. -/
def execVssseg7e16V (s : State) : Result := emit .vssseg7e16V .v_ldst s

/-- R6135 `vluxseg7ei16.v`: codec `v_ldst`. -/
def execVluxseg7ei16V (s : State) : Result := emit .vluxseg7ei16V .v_ldst s

/-- R6136 `vsuxseg7ei16.v`: codec `v_ldst`. -/
def execVsuxseg7ei16V (s : State) : Result := emit .vsuxseg7ei16V .v_ldst s

/-- R6137 `vloxseg7ei16.v`: codec `v_ldst`. -/
def execVloxseg7ei16V (s : State) : Result := emit .vloxseg7ei16V .v_ldst s

/-- R6138 `vsoxseg7ei16.v`: codec `v_ldst`. -/
def execVsoxseg7ei16V (s : State) : Result := emit .vsoxseg7ei16V .v_ldst s

/-- R6139 `vlseg8e16.v`: codec `v_ldst_u`. -/
def execVlseg8e16V (s : State) : Result := emit .vlseg8e16V .v_ldst_u s

/-- R6140 `vlseg8e16ff.v`: codec `v_ldst_u`. -/
def execVlseg8e16ffV (s : State) : Result := emit .vlseg8e16ffV .v_ldst_u s

/-- R6141 `vsseg8e16.v`: codec `v_ldst_u`. -/
def execVsseg8e16V (s : State) : Result := emit .vsseg8e16V .v_ldst_u s

/-- R6142 `vlsseg8e16.v`: codec `v_ldst`. -/
def execVlsseg8e16V (s : State) : Result := emit .vlsseg8e16V .v_ldst s

/-- R6143 `vssseg8e16.v`: codec `v_ldst`. -/
def execVssseg8e16V (s : State) : Result := emit .vssseg8e16V .v_ldst s

/-- R6144 `vluxseg8ei16.v`: codec `v_ldst`. -/
def execVluxseg8ei16V (s : State) : Result := emit .vluxseg8ei16V .v_ldst s

/-- R6145 `vsuxseg8ei16.v`: codec `v_ldst`. -/
def execVsuxseg8ei16V (s : State) : Result := emit .vsuxseg8ei16V .v_ldst s

/-- R6146 `vloxseg8ei16.v`: codec `v_ldst`. -/
def execVloxseg8ei16V (s : State) : Result := emit .vloxseg8ei16V .v_ldst s

/-- R6147 `vsoxseg8ei16.v`: codec `v_ldst`. -/
def execVsoxseg8ei16V (s : State) : Result := emit .vsoxseg8ei16V .v_ldst s

/-- R6148 `vl1re16.v`: codec `v_ldst_u`. -/
def execVl1re16V (s : State) : Result := emit .vl1re16V .v_ldst_u s

/-- R6149 `vl2re16.v`: codec `v_ldst_u`. -/
def execVl2re16V (s : State) : Result := emit .vl2re16V .v_ldst_u s

/-- R6150 `vl4re16.v`: codec `v_ldst_u`. -/
def execVl4re16V (s : State) : Result := emit .vl4re16V .v_ldst_u s

/-- R6151 `vl8re16.v`: codec `v_ldst_u`. -/
def execVl8re16V (s : State) : Result := emit .vl8re16V .v_ldst_u s

/-- R6152 `vle32.v`: codec `v_ldst_u`. -/
def execVle32V (s : State) : Result := emit .vle32V .v_ldst_u s

/-- R6153 `vle32ff.v`: codec `v_ldst_u`. -/
def execVle32ffV (s : State) : Result := emit .vle32ffV .v_ldst_u s

/-- R6154 `vse32.v`: codec `v_ldst_u`. -/
def execVse32V (s : State) : Result := emit .vse32V .v_ldst_u s

/-- R6155 `vlse32.v`: codec `v_ldst`. -/
def execVlse32V (s : State) : Result := emit .vlse32V .v_ldst s

/-- R6156 `vsse32.v`: codec `v_ldst`. -/
def execVsse32V (s : State) : Result := emit .vsse32V .v_ldst s

/-- R6157 `vluxei32.v`: codec `v_ldst`. -/
def execVluxei32V (s : State) : Result := emit .vluxei32V .v_ldst s

/-- R6158 `vsuxei32.v`: codec `v_ldst`. -/
def execVsuxei32V (s : State) : Result := emit .vsuxei32V .v_ldst s

/-- R6159 `vloxei32.v`: codec `v_ldst`. -/
def execVloxei32V (s : State) : Result := emit .vloxei32V .v_ldst s

/-- R6160 `vsoxei32.v`: codec `v_ldst`. -/
def execVsoxei32V (s : State) : Result := emit .vsoxei32V .v_ldst s

/-- R6161 `vlseg2e32.v`: codec `v_ldst_u`. -/
def execVlseg2e32V (s : State) : Result := emit .vlseg2e32V .v_ldst_u s

/-- R6162 `vlseg2e32ff.v`: codec `v_ldst_u`. -/
def execVlseg2e32ffV (s : State) : Result := emit .vlseg2e32ffV .v_ldst_u s

/-- R6163 `vsseg2e32.v`: codec `v_ldst_u`. -/
def execVsseg2e32V (s : State) : Result := emit .vsseg2e32V .v_ldst_u s

/-- R6164 `vlsseg2e32.v`: codec `v_ldst`. -/
def execVlsseg2e32V (s : State) : Result := emit .vlsseg2e32V .v_ldst s

/-- R6165 `vssseg2e32.v`: codec `v_ldst`. -/
def execVssseg2e32V (s : State) : Result := emit .vssseg2e32V .v_ldst s

/-- R6166 `vluxseg2ei32.v`: codec `v_ldst`. -/
def execVluxseg2ei32V (s : State) : Result := emit .vluxseg2ei32V .v_ldst s

/-- R6167 `vsuxseg2ei32.v`: codec `v_ldst`. -/
def execVsuxseg2ei32V (s : State) : Result := emit .vsuxseg2ei32V .v_ldst s

/-- R6168 `vloxseg2ei32.v`: codec `v_ldst`. -/
def execVloxseg2ei32V (s : State) : Result := emit .vloxseg2ei32V .v_ldst s

/-- R6169 `vsoxseg2ei32.v`: codec `v_ldst`. -/
def execVsoxseg2ei32V (s : State) : Result := emit .vsoxseg2ei32V .v_ldst s

/-- R6170 `vlseg3e32.v`: codec `v_ldst_u`. -/
def execVlseg3e32V (s : State) : Result := emit .vlseg3e32V .v_ldst_u s

/-- R6171 `vlseg3e32ff.v`: codec `v_ldst_u`. -/
def execVlseg3e32ffV (s : State) : Result := emit .vlseg3e32ffV .v_ldst_u s

/-- R6172 `vsseg3e32.v`: codec `v_ldst_u`. -/
def execVsseg3e32V (s : State) : Result := emit .vsseg3e32V .v_ldst_u s

/-- R6173 `vlsseg3e32.v`: codec `v_ldst`. -/
def execVlsseg3e32V (s : State) : Result := emit .vlsseg3e32V .v_ldst s

/-- R6174 `vssseg3e32.v`: codec `v_ldst`. -/
def execVssseg3e32V (s : State) : Result := emit .vssseg3e32V .v_ldst s

/-- R6175 `vluxseg3ei32.v`: codec `v_ldst`. -/
def execVluxseg3ei32V (s : State) : Result := emit .vluxseg3ei32V .v_ldst s

/-- R6176 `vsuxseg3ei32.v`: codec `v_ldst`. -/
def execVsuxseg3ei32V (s : State) : Result := emit .vsuxseg3ei32V .v_ldst s

/-- R6177 `vloxseg3ei32.v`: codec `v_ldst`. -/
def execVloxseg3ei32V (s : State) : Result := emit .vloxseg3ei32V .v_ldst s

/-- R6178 `vsoxseg3ei32.v`: codec `v_ldst`. -/
def execVsoxseg3ei32V (s : State) : Result := emit .vsoxseg3ei32V .v_ldst s

/-- R6179 `vlseg4e32.v`: codec `v_ldst_u`. -/
def execVlseg4e32V (s : State) : Result := emit .vlseg4e32V .v_ldst_u s

/-- R6180 `vlseg4e32ff.v`: codec `v_ldst_u`. -/
def execVlseg4e32ffV (s : State) : Result := emit .vlseg4e32ffV .v_ldst_u s

/-- R6181 `vsseg4e32.v`: codec `v_ldst_u`. -/
def execVsseg4e32V (s : State) : Result := emit .vsseg4e32V .v_ldst_u s

/-- R6182 `vlsseg4e32.v`: codec `v_ldst`. -/
def execVlsseg4e32V (s : State) : Result := emit .vlsseg4e32V .v_ldst s

/-- R6183 `vssseg4e32.v`: codec `v_ldst`. -/
def execVssseg4e32V (s : State) : Result := emit .vssseg4e32V .v_ldst s

/-- R6184 `vluxseg4ei32.v`: codec `v_ldst`. -/
def execVluxseg4ei32V (s : State) : Result := emit .vluxseg4ei32V .v_ldst s

/-- R6185 `vsuxseg4ei32.v`: codec `v_ldst`. -/
def execVsuxseg4ei32V (s : State) : Result := emit .vsuxseg4ei32V .v_ldst s

/-- R6186 `vloxseg4ei32.v`: codec `v_ldst`. -/
def execVloxseg4ei32V (s : State) : Result := emit .vloxseg4ei32V .v_ldst s

/-- R6187 `vsoxseg4ei32.v`: codec `v_ldst`. -/
def execVsoxseg4ei32V (s : State) : Result := emit .vsoxseg4ei32V .v_ldst s

/-- R6188 `vlseg5e32.v`: codec `v_ldst_u`. -/
def execVlseg5e32V (s : State) : Result := emit .vlseg5e32V .v_ldst_u s

/-- R6189 `vlseg5e32ff.v`: codec `v_ldst_u`. -/
def execVlseg5e32ffV (s : State) : Result := emit .vlseg5e32ffV .v_ldst_u s

/-- R6190 `vsseg5e32.v`: codec `v_ldst_u`. -/
def execVsseg5e32V (s : State) : Result := emit .vsseg5e32V .v_ldst_u s

/-- R6191 `vlsseg5e32.v`: codec `v_ldst`. -/
def execVlsseg5e32V (s : State) : Result := emit .vlsseg5e32V .v_ldst s

/-- R6192 `vssseg5e32.v`: codec `v_ldst`. -/
def execVssseg5e32V (s : State) : Result := emit .vssseg5e32V .v_ldst s

/-- R6193 `vluxseg5ei32.v`: codec `v_ldst`. -/
def execVluxseg5ei32V (s : State) : Result := emit .vluxseg5ei32V .v_ldst s

/-- R6194 `vsuxseg5ei32.v`: codec `v_ldst`. -/
def execVsuxseg5ei32V (s : State) : Result := emit .vsuxseg5ei32V .v_ldst s

/-- R6195 `vloxseg5ei32.v`: codec `v_ldst`. -/
def execVloxseg5ei32V (s : State) : Result := emit .vloxseg5ei32V .v_ldst s

/-- R6196 `vsoxseg5ei32.v`: codec `v_ldst`. -/
def execVsoxseg5ei32V (s : State) : Result := emit .vsoxseg5ei32V .v_ldst s

/-- R6197 `vlseg6e32.v`: codec `v_ldst_u`. -/
def execVlseg6e32V (s : State) : Result := emit .vlseg6e32V .v_ldst_u s

/-- R6198 `vlseg6e32ff.v`: codec `v_ldst_u`. -/
def execVlseg6e32ffV (s : State) : Result := emit .vlseg6e32ffV .v_ldst_u s

/-- R6199 `vsseg6e32.v`: codec `v_ldst_u`. -/
def execVsseg6e32V (s : State) : Result := emit .vsseg6e32V .v_ldst_u s

/-- R6200 `vlsseg6e32.v`: codec `v_ldst`. -/
def execVlsseg6e32V (s : State) : Result := emit .vlsseg6e32V .v_ldst s

/-- R6201 `vssseg6e32.v`: codec `v_ldst`. -/
def execVssseg6e32V (s : State) : Result := emit .vssseg6e32V .v_ldst s

/-- R6202 `vluxseg6ei32.v`: codec `v_ldst`. -/
def execVluxseg6ei32V (s : State) : Result := emit .vluxseg6ei32V .v_ldst s

/-- R6203 `vsuxseg6ei32.v`: codec `v_ldst`. -/
def execVsuxseg6ei32V (s : State) : Result := emit .vsuxseg6ei32V .v_ldst s

/-- R6204 `vloxseg6ei32.v`: codec `v_ldst`. -/
def execVloxseg6ei32V (s : State) : Result := emit .vloxseg6ei32V .v_ldst s

/-- R6205 `vsoxseg6ei32.v`: codec `v_ldst`. -/
def execVsoxseg6ei32V (s : State) : Result := emit .vsoxseg6ei32V .v_ldst s

/-- R6206 `vlseg7e32.v`: codec `v_ldst_u`. -/
def execVlseg7e32V (s : State) : Result := emit .vlseg7e32V .v_ldst_u s

/-- R6207 `vlseg7e32ff.v`: codec `v_ldst_u`. -/
def execVlseg7e32ffV (s : State) : Result := emit .vlseg7e32ffV .v_ldst_u s

/-- R6208 `vsseg7e32.v`: codec `v_ldst_u`. -/
def execVsseg7e32V (s : State) : Result := emit .vsseg7e32V .v_ldst_u s

/-- R6209 `vlsseg7e32.v`: codec `v_ldst`. -/
def execVlsseg7e32V (s : State) : Result := emit .vlsseg7e32V .v_ldst s

/-- R6210 `vssseg7e32.v`: codec `v_ldst`. -/
def execVssseg7e32V (s : State) : Result := emit .vssseg7e32V .v_ldst s

/-- R6211 `vluxseg7ei32.v`: codec `v_ldst`. -/
def execVluxseg7ei32V (s : State) : Result := emit .vluxseg7ei32V .v_ldst s

/-- R6212 `vsuxseg7ei32.v`: codec `v_ldst`. -/
def execVsuxseg7ei32V (s : State) : Result := emit .vsuxseg7ei32V .v_ldst s

/-- R6213 `vloxseg7ei32.v`: codec `v_ldst`. -/
def execVloxseg7ei32V (s : State) : Result := emit .vloxseg7ei32V .v_ldst s

/-- R6214 `vsoxseg7ei32.v`: codec `v_ldst`. -/
def execVsoxseg7ei32V (s : State) : Result := emit .vsoxseg7ei32V .v_ldst s

/-- R6215 `vlseg8e32.v`: codec `v_ldst_u`. -/
def execVlseg8e32V (s : State) : Result := emit .vlseg8e32V .v_ldst_u s

/-- R6216 `vlseg8e32ff.v`: codec `v_ldst_u`. -/
def execVlseg8e32ffV (s : State) : Result := emit .vlseg8e32ffV .v_ldst_u s

/-- R6217 `vsseg8e32.v`: codec `v_ldst_u`. -/
def execVsseg8e32V (s : State) : Result := emit .vsseg8e32V .v_ldst_u s

/-- R6218 `vlsseg8e32.v`: codec `v_ldst`. -/
def execVlsseg8e32V (s : State) : Result := emit .vlsseg8e32V .v_ldst s

/-- R6219 `vssseg8e32.v`: codec `v_ldst`. -/
def execVssseg8e32V (s : State) : Result := emit .vssseg8e32V .v_ldst s

/-- R6220 `vluxseg8ei32.v`: codec `v_ldst`. -/
def execVluxseg8ei32V (s : State) : Result := emit .vluxseg8ei32V .v_ldst s

/-- R6221 `vsuxseg8ei32.v`: codec `v_ldst`. -/
def execVsuxseg8ei32V (s : State) : Result := emit .vsuxseg8ei32V .v_ldst s

/-- R6222 `vloxseg8ei32.v`: codec `v_ldst`. -/
def execVloxseg8ei32V (s : State) : Result := emit .vloxseg8ei32V .v_ldst s

/-- R6223 `vsoxseg8ei32.v`: codec `v_ldst`. -/
def execVsoxseg8ei32V (s : State) : Result := emit .vsoxseg8ei32V .v_ldst s

/-- R6224 `vl1re32.v`: codec `v_ldst_u`. -/
def execVl1re32V (s : State) : Result := emit .vl1re32V .v_ldst_u s

/-- R6225 `vl2re32.v`: codec `v_ldst_u`. -/
def execVl2re32V (s : State) : Result := emit .vl2re32V .v_ldst_u s

/-- R6226 `vl4re32.v`: codec `v_ldst_u`. -/
def execVl4re32V (s : State) : Result := emit .vl4re32V .v_ldst_u s

/-- R6227 `vl8re32.v`: codec `v_ldst_u`. -/
def execVl8re32V (s : State) : Result := emit .vl8re32V .v_ldst_u s

/-- R6228 `vle64.v`: codec `v_ldst_u`. -/
def execVle64V (s : State) : Result := emit .vle64V .v_ldst_u s

/-- R6229 `vle64ff.v`: codec `v_ldst_u`. -/
def execVle64ffV (s : State) : Result := emit .vle64ffV .v_ldst_u s

/-- R6230 `vse64.v`: codec `v_ldst_u`. -/
def execVse64V (s : State) : Result := emit .vse64V .v_ldst_u s

/-- R6231 `vlse64.v`: codec `v_ldst`. -/
def execVlse64V (s : State) : Result := emit .vlse64V .v_ldst s

/-- R6232 `vsse64.v`: codec `v_ldst`. -/
def execVsse64V (s : State) : Result := emit .vsse64V .v_ldst s

/-- R6233 `vluxei64.v`: codec `v_ldst`. -/
def execVluxei64V (s : State) : Result := emit .vluxei64V .v_ldst s

/-- R6234 `vsuxei64.v`: codec `v_ldst`. -/
def execVsuxei64V (s : State) : Result := emit .vsuxei64V .v_ldst s

/-- R6235 `vloxei64.v`: codec `v_ldst`. -/
def execVloxei64V (s : State) : Result := emit .vloxei64V .v_ldst s

/-- R6236 `vsoxei64.v`: codec `v_ldst`. -/
def execVsoxei64V (s : State) : Result := emit .vsoxei64V .v_ldst s

/-- R6237 `vlseg2e64.v`: codec `v_ldst_u`. -/
def execVlseg2e64V (s : State) : Result := emit .vlseg2e64V .v_ldst_u s

/-- R6238 `vlseg2e64ff.v`: codec `v_ldst_u`. -/
def execVlseg2e64ffV (s : State) : Result := emit .vlseg2e64ffV .v_ldst_u s

/-- R6239 `vsseg2e64.v`: codec `v_ldst_u`. -/
def execVsseg2e64V (s : State) : Result := emit .vsseg2e64V .v_ldst_u s

/-- R6240 `vlsseg2e64.v`: codec `v_ldst`. -/
def execVlsseg2e64V (s : State) : Result := emit .vlsseg2e64V .v_ldst s

/-- R6241 `vssseg2e64.v`: codec `v_ldst`. -/
def execVssseg2e64V (s : State) : Result := emit .vssseg2e64V .v_ldst s

/-- R6242 `vluxseg2ei64.v`: codec `v_ldst`. -/
def execVluxseg2ei64V (s : State) : Result := emit .vluxseg2ei64V .v_ldst s

/-- R6243 `vsuxseg2ei64.v`: codec `v_ldst`. -/
def execVsuxseg2ei64V (s : State) : Result := emit .vsuxseg2ei64V .v_ldst s

/-- R6244 `vloxseg2ei64.v`: codec `v_ldst`. -/
def execVloxseg2ei64V (s : State) : Result := emit .vloxseg2ei64V .v_ldst s

/-- R6245 `vsoxseg2ei64.v`: codec `v_ldst`. -/
def execVsoxseg2ei64V (s : State) : Result := emit .vsoxseg2ei64V .v_ldst s

/-- R6246 `vlseg3e64.v`: codec `v_ldst_u`. -/
def execVlseg3e64V (s : State) : Result := emit .vlseg3e64V .v_ldst_u s

/-- R6247 `vlseg3e64ff.v`: codec `v_ldst_u`. -/
def execVlseg3e64ffV (s : State) : Result := emit .vlseg3e64ffV .v_ldst_u s

/-- R6248 `vsseg3e64.v`: codec `v_ldst_u`. -/
def execVsseg3e64V (s : State) : Result := emit .vsseg3e64V .v_ldst_u s

/-- R6249 `vlsseg3e64.v`: codec `v_ldst`. -/
def execVlsseg3e64V (s : State) : Result := emit .vlsseg3e64V .v_ldst s

/-- R6250 `vssseg3e64.v`: codec `v_ldst`. -/
def execVssseg3e64V (s : State) : Result := emit .vssseg3e64V .v_ldst s

/-- R6251 `vluxseg3ei64.v`: codec `v_ldst`. -/
def execVluxseg3ei64V (s : State) : Result := emit .vluxseg3ei64V .v_ldst s

/-- R6252 `vsuxseg3ei64.v`: codec `v_ldst`. -/
def execVsuxseg3ei64V (s : State) : Result := emit .vsuxseg3ei64V .v_ldst s

/-- R6253 `vloxseg3ei64.v`: codec `v_ldst`. -/
def execVloxseg3ei64V (s : State) : Result := emit .vloxseg3ei64V .v_ldst s

/-- R6254 `vsoxseg3ei64.v`: codec `v_ldst`. -/
def execVsoxseg3ei64V (s : State) : Result := emit .vsoxseg3ei64V .v_ldst s

/-- R6255 `vlseg4e64.v`: codec `v_ldst_u`. -/
def execVlseg4e64V (s : State) : Result := emit .vlseg4e64V .v_ldst_u s

/-- R6256 `vlseg4e64ff.v`: codec `v_ldst_u`. -/
def execVlseg4e64ffV (s : State) : Result := emit .vlseg4e64ffV .v_ldst_u s

/-- R6257 `vsseg4e64.v`: codec `v_ldst_u`. -/
def execVsseg4e64V (s : State) : Result := emit .vsseg4e64V .v_ldst_u s

/-- R6258 `vlsseg4e64.v`: codec `v_ldst`. -/
def execVlsseg4e64V (s : State) : Result := emit .vlsseg4e64V .v_ldst s

/-- R6259 `vssseg4e64.v`: codec `v_ldst`. -/
def execVssseg4e64V (s : State) : Result := emit .vssseg4e64V .v_ldst s

/-- R6260 `vluxseg4ei64.v`: codec `v_ldst`. -/
def execVluxseg4ei64V (s : State) : Result := emit .vluxseg4ei64V .v_ldst s

/-- R6261 `vsuxseg4ei64.v`: codec `v_ldst`. -/
def execVsuxseg4ei64V (s : State) : Result := emit .vsuxseg4ei64V .v_ldst s

/-- R6262 `vloxseg4ei64.v`: codec `v_ldst`. -/
def execVloxseg4ei64V (s : State) : Result := emit .vloxseg4ei64V .v_ldst s

/-- R6263 `vsoxseg4ei64.v`: codec `v_ldst`. -/
def execVsoxseg4ei64V (s : State) : Result := emit .vsoxseg4ei64V .v_ldst s

/-- R6264 `vlseg5e64.v`: codec `v_ldst_u`. -/
def execVlseg5e64V (s : State) : Result := emit .vlseg5e64V .v_ldst_u s

/-- R6265 `vlseg5e64ff.v`: codec `v_ldst_u`. -/
def execVlseg5e64ffV (s : State) : Result := emit .vlseg5e64ffV .v_ldst_u s

/-- R6266 `vsseg5e64.v`: codec `v_ldst_u`. -/
def execVsseg5e64V (s : State) : Result := emit .vsseg5e64V .v_ldst_u s

/-- R6267 `vlsseg5e64.v`: codec `v_ldst`. -/
def execVlsseg5e64V (s : State) : Result := emit .vlsseg5e64V .v_ldst s

/-- R6268 `vssseg5e64.v`: codec `v_ldst`. -/
def execVssseg5e64V (s : State) : Result := emit .vssseg5e64V .v_ldst s

/-- R6269 `vluxseg5ei64.v`: codec `v_ldst`. -/
def execVluxseg5ei64V (s : State) : Result := emit .vluxseg5ei64V .v_ldst s

/-- R6270 `vsuxseg5ei64.v`: codec `v_ldst`. -/
def execVsuxseg5ei64V (s : State) : Result := emit .vsuxseg5ei64V .v_ldst s

/-- R6271 `vloxseg5ei64.v`: codec `v_ldst`. -/
def execVloxseg5ei64V (s : State) : Result := emit .vloxseg5ei64V .v_ldst s

/-- R6272 `vsoxseg5ei64.v`: codec `v_ldst`. -/
def execVsoxseg5ei64V (s : State) : Result := emit .vsoxseg5ei64V .v_ldst s

/-- R6273 `vlseg6e64.v`: codec `v_ldst_u`. -/
def execVlseg6e64V (s : State) : Result := emit .vlseg6e64V .v_ldst_u s

/-- R6274 `vlseg6e64ff.v`: codec `v_ldst_u`. -/
def execVlseg6e64ffV (s : State) : Result := emit .vlseg6e64ffV .v_ldst_u s

/-- R6275 `vsseg6e64.v`: codec `v_ldst_u`. -/
def execVsseg6e64V (s : State) : Result := emit .vsseg6e64V .v_ldst_u s

/-- R6276 `vlsseg6e64.v`: codec `v_ldst`. -/
def execVlsseg6e64V (s : State) : Result := emit .vlsseg6e64V .v_ldst s

/-- R6277 `vssseg6e64.v`: codec `v_ldst`. -/
def execVssseg6e64V (s : State) : Result := emit .vssseg6e64V .v_ldst s

/-- R6278 `vluxseg6ei64.v`: codec `v_ldst`. -/
def execVluxseg6ei64V (s : State) : Result := emit .vluxseg6ei64V .v_ldst s

/-- R6279 `vsuxseg6ei64.v`: codec `v_ldst`. -/
def execVsuxseg6ei64V (s : State) : Result := emit .vsuxseg6ei64V .v_ldst s

/-- R6280 `vloxseg6ei64.v`: codec `v_ldst`. -/
def execVloxseg6ei64V (s : State) : Result := emit .vloxseg6ei64V .v_ldst s

/-- R6281 `vsoxseg6ei64.v`: codec `v_ldst`. -/
def execVsoxseg6ei64V (s : State) : Result := emit .vsoxseg6ei64V .v_ldst s

/-- R6282 `vlseg7e64.v`: codec `v_ldst_u`. -/
def execVlseg7e64V (s : State) : Result := emit .vlseg7e64V .v_ldst_u s

/-- R6283 `vlseg7e64ff.v`: codec `v_ldst_u`. -/
def execVlseg7e64ffV (s : State) : Result := emit .vlseg7e64ffV .v_ldst_u s

/-- R6284 `vsseg7e64.v`: codec `v_ldst_u`. -/
def execVsseg7e64V (s : State) : Result := emit .vsseg7e64V .v_ldst_u s

/-- R6285 `vlsseg7e64.v`: codec `v_ldst`. -/
def execVlsseg7e64V (s : State) : Result := emit .vlsseg7e64V .v_ldst s

/-- R6286 `vssseg7e64.v`: codec `v_ldst`. -/
def execVssseg7e64V (s : State) : Result := emit .vssseg7e64V .v_ldst s

/-- R6287 `vluxseg7ei64.v`: codec `v_ldst`. -/
def execVluxseg7ei64V (s : State) : Result := emit .vluxseg7ei64V .v_ldst s

/-- R6288 `vsuxseg7ei64.v`: codec `v_ldst`. -/
def execVsuxseg7ei64V (s : State) : Result := emit .vsuxseg7ei64V .v_ldst s

/-- R6289 `vloxseg7ei64.v`: codec `v_ldst`. -/
def execVloxseg7ei64V (s : State) : Result := emit .vloxseg7ei64V .v_ldst s

/-- R6290 `vsoxseg7ei64.v`: codec `v_ldst`. -/
def execVsoxseg7ei64V (s : State) : Result := emit .vsoxseg7ei64V .v_ldst s

/-- R6291 `vlseg8e64.v`: codec `v_ldst_u`. -/
def execVlseg8e64V (s : State) : Result := emit .vlseg8e64V .v_ldst_u s

/-- R6292 `vlseg8e64ff.v`: codec `v_ldst_u`. -/
def execVlseg8e64ffV (s : State) : Result := emit .vlseg8e64ffV .v_ldst_u s

/-- R6293 `vsseg8e64.v`: codec `v_ldst_u`. -/
def execVsseg8e64V (s : State) : Result := emit .vsseg8e64V .v_ldst_u s

/-- R6294 `vlsseg8e64.v`: codec `v_ldst`. -/
def execVlsseg8e64V (s : State) : Result := emit .vlsseg8e64V .v_ldst s

/-- R6295 `vssseg8e64.v`: codec `v_ldst`. -/
def execVssseg8e64V (s : State) : Result := emit .vssseg8e64V .v_ldst s

/-- R6296 `vluxseg8ei64.v`: codec `v_ldst`. -/
def execVluxseg8ei64V (s : State) : Result := emit .vluxseg8ei64V .v_ldst s

/-- R6297 `vsuxseg8ei64.v`: codec `v_ldst`. -/
def execVsuxseg8ei64V (s : State) : Result := emit .vsuxseg8ei64V .v_ldst s

/-- R6298 `vloxseg8ei64.v`: codec `v_ldst`. -/
def execVloxseg8ei64V (s : State) : Result := emit .vloxseg8ei64V .v_ldst s

/-- R6299 `vsoxseg8ei64.v`: codec `v_ldst`. -/
def execVsoxseg8ei64V (s : State) : Result := emit .vsoxseg8ei64V .v_ldst s

/-- R6300 `vl1re64.v`: codec `v_ldst_u`. -/
def execVl1re64V (s : State) : Result := emit .vl1re64V .v_ldst_u s

/-- R6301 `vl2re64.v`: codec `v_ldst_u`. -/
def execVl2re64V (s : State) : Result := emit .vl2re64V .v_ldst_u s

/-- R6302 `vl4re64.v`: codec `v_ldst_u`. -/
def execVl4re64V (s : State) : Result := emit .vl4re64V .v_ldst_u s

/-- R6303 `vl8re64.v`: codec `v_ldst_u`. -/
def execVl8re64V (s : State) : Result := emit .vl8re64V .v_ldst_u s

/-- R6304 `vs1r.v`: codec `v_ldst_u`. -/
def execVs1rV (s : State) : Result := emit .vs1rV .v_ldst_u s

/-- R6305 `vs2r.v`: codec `v_ldst_u`. -/
def execVs2rV (s : State) : Result := emit .vs2rV .v_ldst_u s

/-- R6306 `vs4r.v`: codec `v_ldst_u`. -/
def execVs4rV (s : State) : Result := emit .vs4rV .v_ldst_u s

/-- R6307 `vs8r.v`: codec `v_ldst_u`. -/
def execVs8rV (s : State) : Result := emit .vs8rV .v_ldst_u s

/-- R6308 `vlm.v`: codec `v_ldst_u`. -/
def execVlmV (s : State) : Result := emit .vlmV .v_ldst_u s

/-- R6309 `vsm.v`: codec `v_ldst_u`. -/
def execVsmV (s : State) : Result := emit .vsmV .v_ldst_u s

end Sys2Proof.Machine
end

