-- ==== Sys2Proof/Machine/Vendor.lean ====
section
/-! DEFINITION. Machine/Vendor.lean: the meanings of the vendor opcodes (47_vendor): each is the decode result the
block produces for the opcode (00_scope.md R7, 40_pipeline.md R200). -/

namespace Sys2Proof.Machine

/-- R7000 `th.addsl`: codec `r_imm2`; catalog xthead. -/
def execThAddsl (s : State) : Result := emit .thAddsl .r_imm2 s

/-- R7001 `th.srri`: codec `r2_imm6`; catalog xthead. -/
def execThSrri (s : State) : Result := emit .thSrri .r2_imm6 s

/-- R7002 `th.srriw`: codec `r2_imm5`; catalog xthead. -/
def execThSrriw (s : State) : Result := emit .thSrriw .r2_imm5 s

/-- R7003 `th.ext`: codec `r2_immhl`; catalog xthead. -/
def execThExt (s : State) : Result := emit .thExt .r2_immhl s

/-- R7004 `th.extu`: codec `r2_immhl`; catalog xthead. -/
def execThExtu (s : State) : Result := emit .thExtu .r2_immhl s

/-- R7005 `th.ff0`: codec `r2`; catalog xthead. -/
def execThFf0 (s : State) : Result := emit .thFf0 .r2 s

/-- R7006 `th.ff1`: codec `r2`; catalog xthead. -/
def execThFf1 (s : State) : Result := emit .thFf1 .r2 s

/-- R7007 `th.rev`: codec `r2`; catalog xthead. -/
def execThRev (s : State) : Result := emit .thRev .r2 s

/-- R7008 `th.revw`: codec `r2`; catalog xthead. -/
def execThRevw (s : State) : Result := emit .thRevw .r2 s

/-- R7009 `th.tstnbz`: codec `r2`; catalog xthead. -/
def execThTstnbz (s : State) : Result := emit .thTstnbz .r2 s

/-- R7010 `th.tst`: codec `r2_imm6`; catalog xthead. -/
def execThTst (s : State) : Result := emit .thTst .r2_imm6 s

/-- R7011 `th.mveqz`: codec `r`; catalog xthead. -/
def execThMveqz (s : State) : Result := emit .thMveqz .r s

/-- R7012 `th.mvnez`: codec `r`; catalog xthead. -/
def execThMvnez (s : State) : Result := emit .thMvnez .r s

/-- R7013 `vt.maskc`: codec `r`; catalog xventana. -/
def execVtMaskc (s : State) : Result := emit .vtMaskc .r s

/-- R7014 `vt.maskcn`: codec `r`; catalog xventana. -/
def execVtMaskcn (s : State) : Result := emit .vtMaskcn .r s

end Sys2Proof.Machine
end

