-- ==== Sys2Proof/Machine/Dispatch.lean ====
section
/-! DEFINITION. Machine/Dispatch.lean: exec, one arm per opcode, each one direct call of its meaning. -/

namespace Sys2Proof.Machine

/-- The meaning of each opcode. -/
def exec (i : Instr) (s : State) : Host.Outcome State Fault Refusal :=
  match i with
  | .lui => Sys2Proof.Machine.execLui s
  | .auipc => Sys2Proof.Machine.execAuipc s
  | .jal => Sys2Proof.Machine.execJal s
  | .jalr => Sys2Proof.Machine.execJalr s
  | .beq => Sys2Proof.Machine.execBeq s
  | .bne => Sys2Proof.Machine.execBne s
  | .blt => Sys2Proof.Machine.execBlt s
  | .bge => Sys2Proof.Machine.execBge s
  | .bltu => Sys2Proof.Machine.execBltu s
  | .bgeu => Sys2Proof.Machine.execBgeu s
  | .lb => Sys2Proof.Machine.execLb s
  | .lh => Sys2Proof.Machine.execLh s
  | .lw => Sys2Proof.Machine.execLw s
  | .ld => Sys2Proof.Machine.execLd s
  | .lbu => Sys2Proof.Machine.execLbu s
  | .lhu => Sys2Proof.Machine.execLhu s
  | .lwu => Sys2Proof.Machine.execLwu s
  | .ldu => Sys2Proof.Machine.execLdu s
  | .sb => Sys2Proof.Machine.execSb s
  | .sh => Sys2Proof.Machine.execSh s
  | .sw => Sys2Proof.Machine.execSw s
  | .sd => Sys2Proof.Machine.execSd s
  | .sq => Sys2Proof.Machine.execSq s
  | .addi => Sys2Proof.Machine.execAddi s
  | .slti => Sys2Proof.Machine.execSlti s
  | .sltiu => Sys2Proof.Machine.execSltiu s
  | .xori => Sys2Proof.Machine.execXori s
  | .ori => Sys2Proof.Machine.execOri s
  | .andi => Sys2Proof.Machine.execAndi s
  | .slli => Sys2Proof.Machine.execSlli s
  | .srli => Sys2Proof.Machine.execSrli s
  | .srai => Sys2Proof.Machine.execSrai s
  | .add => Sys2Proof.Machine.execAdd s
  | .sub => Sys2Proof.Machine.execSub s
  | .sll => Sys2Proof.Machine.execSll s
  | .slt => Sys2Proof.Machine.execSlt s
  | .sltu => Sys2Proof.Machine.execSltu s
  | .xor => Sys2Proof.Machine.execXor s
  | .srl => Sys2Proof.Machine.execSrl s
  | .sra => Sys2Proof.Machine.execSra s
  | .or => Sys2Proof.Machine.execOr s
  | .and => Sys2Proof.Machine.execAnd s
  | .fence => Sys2Proof.Machine.execFence s
  | .fenceI => Sys2Proof.Machine.execFenceI s
  | .ecall => Sys2Proof.Machine.execEcall s
  | .ebreak => Sys2Proof.Machine.execEbreak s
  | .addiw => Sys2Proof.Machine.execAddiw s
  | .slliw => Sys2Proof.Machine.execSlliw s
  | .srliw => Sys2Proof.Machine.execSrliw s
  | .sraiw => Sys2Proof.Machine.execSraiw s
  | .addw => Sys2Proof.Machine.execAddw s
  | .subw => Sys2Proof.Machine.execSubw s
  | .sllw => Sys2Proof.Machine.execSllw s
  | .srlw => Sys2Proof.Machine.execSrlw s
  | .sraw => Sys2Proof.Machine.execSraw s
  | .lq => Sys2Proof.Machine.execLq s
  | .addid => Sys2Proof.Machine.execAddid s
  | .sllid => Sys2Proof.Machine.execSllid s
  | .srlid => Sys2Proof.Machine.execSrlid s
  | .sraid => Sys2Proof.Machine.execSraid s
  | .addd => Sys2Proof.Machine.execAddd s
  | .subd => Sys2Proof.Machine.execSubd s
  | .slld => Sys2Proof.Machine.execSlld s
  | .srld => Sys2Proof.Machine.execSrld s
  | .srad => Sys2Proof.Machine.execSrad s
  | .mul => Sys2Proof.Machine.execMul s
  | .mulh => Sys2Proof.Machine.execMulh s
  | .mulhsu => Sys2Proof.Machine.execMulhsu s
  | .mulhu => Sys2Proof.Machine.execMulhu s
  | .div => Sys2Proof.Machine.execDiv s
  | .divu => Sys2Proof.Machine.execDivu s
  | .rem => Sys2Proof.Machine.execRem s
  | .remu => Sys2Proof.Machine.execRemu s
  | .mulw => Sys2Proof.Machine.execMulw s
  | .divw => Sys2Proof.Machine.execDivw s
  | .divuw => Sys2Proof.Machine.execDivuw s
  | .remw => Sys2Proof.Machine.execRemw s
  | .remuw => Sys2Proof.Machine.execRemuw s
  | .muld => Sys2Proof.Machine.execMuld s
  | .divd => Sys2Proof.Machine.execDivd s
  | .divud => Sys2Proof.Machine.execDivud s
  | .remd => Sys2Proof.Machine.execRemd s
  | .remud => Sys2Proof.Machine.execRemud s
  | .lrW => Sys2Proof.Machine.execLrW s
  | .scW => Sys2Proof.Machine.execScW s
  | .amoaddW => Sys2Proof.Machine.execAmoaddW s
  | .amoswapW => Sys2Proof.Machine.execAmoswapW s
  | .amoxorW => Sys2Proof.Machine.execAmoxorW s
  | .amoorW => Sys2Proof.Machine.execAmoorW s
  | .amoandW => Sys2Proof.Machine.execAmoandW s
  | .amominW => Sys2Proof.Machine.execAmominW s
  | .amomaxW => Sys2Proof.Machine.execAmomaxW s
  | .amominuW => Sys2Proof.Machine.execAmominuW s
  | .amomaxuW => Sys2Proof.Machine.execAmomaxuW s
  | .lrD => Sys2Proof.Machine.execLrD s
  | .scD => Sys2Proof.Machine.execScD s
  | .amoaddD => Sys2Proof.Machine.execAmoaddD s
  | .amoswapD => Sys2Proof.Machine.execAmoswapD s
  | .amoxorD => Sys2Proof.Machine.execAmoxorD s
  | .amoorD => Sys2Proof.Machine.execAmoorD s
  | .amoandD => Sys2Proof.Machine.execAmoandD s
  | .amominD => Sys2Proof.Machine.execAmominD s
  | .amomaxD => Sys2Proof.Machine.execAmomaxD s
  | .amominuD => Sys2Proof.Machine.execAmominuD s
  | .amomaxuD => Sys2Proof.Machine.execAmomaxuD s
  | .lrQ => Sys2Proof.Machine.execLrQ s
  | .scQ => Sys2Proof.Machine.execScQ s
  | .amoaddQ => Sys2Proof.Machine.execAmoaddQ s
  | .amoswapQ => Sys2Proof.Machine.execAmoswapQ s
  | .amoxorQ => Sys2Proof.Machine.execAmoxorQ s
  | .amoorQ => Sys2Proof.Machine.execAmoorQ s
  | .amoandQ => Sys2Proof.Machine.execAmoandQ s
  | .amominQ => Sys2Proof.Machine.execAmominQ s
  | .amomaxQ => Sys2Proof.Machine.execAmomaxQ s
  | .amominuQ => Sys2Proof.Machine.execAmominuQ s
  | .amomaxuQ => Sys2Proof.Machine.execAmomaxuQ s
  | .csrrw => Sys2Proof.Machine.execCsrrw s
  | .csrrs => Sys2Proof.Machine.execCsrrs s
  | .csrrc => Sys2Proof.Machine.execCsrrc s
  | .csrrwi => Sys2Proof.Machine.execCsrrwi s
  | .csrrsi => Sys2Proof.Machine.execCsrrsi s
  | .csrrci => Sys2Proof.Machine.execCsrrci s
  | .uret => Sys2Proof.Machine.execUret s
  | .sret => Sys2Proof.Machine.execSret s
  | .mret => Sys2Proof.Machine.execMret s
  | .dret => Sys2Proof.Machine.execDret s
  | .wfi => Sys2Proof.Machine.execWfi s
  | .sfenceWInval => Sys2Proof.Machine.execSfenceWInval s
  | .sfenceInvalIr => Sys2Proof.Machine.execSfenceInvalIr s
  | .sfenceVma => Sys2Proof.Machine.execSfenceVma s
  | .sinvalVma => Sys2Proof.Machine.execSinvalVma s
  | .hfenceVvma => Sys2Proof.Machine.execHfenceVvma s
  | .hfenceGvma => Sys2Proof.Machine.execHfenceGvma s
  | .hinvalVvma => Sys2Proof.Machine.execHinvalVvma s
  | .hinvalGvma => Sys2Proof.Machine.execHinvalGvma s
  | .hlvB => Sys2Proof.Machine.execHlvB s
  | .hlvBu => Sys2Proof.Machine.execHlvBu s
  | .hlvH => Sys2Proof.Machine.execHlvH s
  | .hlvHu => Sys2Proof.Machine.execHlvHu s
  | .hlvxHu => Sys2Proof.Machine.execHlvxHu s
  | .hlvW => Sys2Proof.Machine.execHlvW s
  | .hlvxWu => Sys2Proof.Machine.execHlvxWu s
  | .hlvWu => Sys2Proof.Machine.execHlvWu s
  | .hlvD => Sys2Proof.Machine.execHlvD s
  | .hsvB => Sys2Proof.Machine.execHsvB s
  | .hsvH => Sys2Proof.Machine.execHsvH s
  | .hsvW => Sys2Proof.Machine.execHsvW s
  | .hsvD => Sys2Proof.Machine.execHsvD s
  | .cboInval => Sys2Proof.Machine.execCboInval s
  | .cboClean => Sys2Proof.Machine.execCboClean s
  | .cboFlush => Sys2Proof.Machine.execCboFlush s
  | .cboZero => Sys2Proof.Machine.execCboZero s
  | .flh => Sys2Proof.Machine.execFlh s
  | .flw => Sys2Proof.Machine.execFlw s
  | .fld => Sys2Proof.Machine.execFld s
  | .flq => Sys2Proof.Machine.execFlq s
  | .fsh => Sys2Proof.Machine.execFsh s
  | .fsw => Sys2Proof.Machine.execFsw s
  | .fsd => Sys2Proof.Machine.execFsd s
  | .fsq => Sys2Proof.Machine.execFsq s
  | .fmaddS => Sys2Proof.Machine.execFmaddS s
  | .fmsubS => Sys2Proof.Machine.execFmsubS s
  | .fnmsubS => Sys2Proof.Machine.execFnmsubS s
  | .fnmaddS => Sys2Proof.Machine.execFnmaddS s
  | .faddS => Sys2Proof.Machine.execFaddS s
  | .fsubS => Sys2Proof.Machine.execFsubS s
  | .fmulS => Sys2Proof.Machine.execFmulS s
  | .fdivS => Sys2Proof.Machine.execFdivS s
  | .fsqrtS => Sys2Proof.Machine.execFsqrtS s
  | .fsgnjS => Sys2Proof.Machine.execFsgnjS s
  | .fsgnjnS => Sys2Proof.Machine.execFsgnjnS s
  | .fsgnjxS => Sys2Proof.Machine.execFsgnjxS s
  | .fminS => Sys2Proof.Machine.execFminS s
  | .fmaxS => Sys2Proof.Machine.execFmaxS s
  | .fcvtSD => Sys2Proof.Machine.execFcvtSD s
  | .fcvtSH => Sys2Proof.Machine.execFcvtSH s
  | .fcvtSQ => Sys2Proof.Machine.execFcvtSQ s
  | .feqS => Sys2Proof.Machine.execFeqS s
  | .fltS => Sys2Proof.Machine.execFltS s
  | .fleS => Sys2Proof.Machine.execFleS s
  | .fclassS => Sys2Proof.Machine.execFclassS s
  | .fcvtWS => Sys2Proof.Machine.execFcvtWS s
  | .fcvtSW => Sys2Proof.Machine.execFcvtSW s
  | .fcvtWuS => Sys2Proof.Machine.execFcvtWuS s
  | .fcvtSWu => Sys2Proof.Machine.execFcvtSWu s
  | .fcvtLS => Sys2Proof.Machine.execFcvtLS s
  | .fcvtSL => Sys2Proof.Machine.execFcvtSL s
  | .fcvtLuS => Sys2Proof.Machine.execFcvtLuS s
  | .fcvtSLu => Sys2Proof.Machine.execFcvtSLu s
  | .fliS => Sys2Proof.Machine.execFliS s
  | .fminmS => Sys2Proof.Machine.execFminmS s
  | .fmaxmS => Sys2Proof.Machine.execFmaxmS s
  | .froundS => Sys2Proof.Machine.execFroundS s
  | .froundnxS => Sys2Proof.Machine.execFroundnxS s
  | .fleqS => Sys2Proof.Machine.execFleqS s
  | .fltqS => Sys2Proof.Machine.execFltqS s
  | .fmaddD => Sys2Proof.Machine.execFmaddD s
  | .fmsubD => Sys2Proof.Machine.execFmsubD s
  | .fnmsubD => Sys2Proof.Machine.execFnmsubD s
  | .fnmaddD => Sys2Proof.Machine.execFnmaddD s
  | .faddD => Sys2Proof.Machine.execFaddD s
  | .fsubD => Sys2Proof.Machine.execFsubD s
  | .fmulD => Sys2Proof.Machine.execFmulD s
  | .fdivD => Sys2Proof.Machine.execFdivD s
  | .fsqrtD => Sys2Proof.Machine.execFsqrtD s
  | .fsgnjD => Sys2Proof.Machine.execFsgnjD s
  | .fsgnjnD => Sys2Proof.Machine.execFsgnjnD s
  | .fsgnjxD => Sys2Proof.Machine.execFsgnjxD s
  | .fminD => Sys2Proof.Machine.execFminD s
  | .fmaxD => Sys2Proof.Machine.execFmaxD s
  | .fcvtDS => Sys2Proof.Machine.execFcvtDS s
  | .fcvtDH => Sys2Proof.Machine.execFcvtDH s
  | .fcvtDQ => Sys2Proof.Machine.execFcvtDQ s
  | .feqD => Sys2Proof.Machine.execFeqD s
  | .fltD => Sys2Proof.Machine.execFltD s
  | .fleD => Sys2Proof.Machine.execFleD s
  | .fclassD => Sys2Proof.Machine.execFclassD s
  | .fcvtWD => Sys2Proof.Machine.execFcvtWD s
  | .fcvtDW => Sys2Proof.Machine.execFcvtDW s
  | .fcvtWuD => Sys2Proof.Machine.execFcvtWuD s
  | .fcvtDWu => Sys2Proof.Machine.execFcvtDWu s
  | .fcvtLD => Sys2Proof.Machine.execFcvtLD s
  | .fcvtDL => Sys2Proof.Machine.execFcvtDL s
  | .fcvtLuD => Sys2Proof.Machine.execFcvtLuD s
  | .fcvtDLu => Sys2Proof.Machine.execFcvtDLu s
  | .fliD => Sys2Proof.Machine.execFliD s
  | .fminmD => Sys2Proof.Machine.execFminmD s
  | .fmaxmD => Sys2Proof.Machine.execFmaxmD s
  | .froundD => Sys2Proof.Machine.execFroundD s
  | .froundnxD => Sys2Proof.Machine.execFroundnxD s
  | .fleqD => Sys2Proof.Machine.execFleqD s
  | .fltqD => Sys2Proof.Machine.execFltqD s
  | .fmaddH => Sys2Proof.Machine.execFmaddH s
  | .fmsubH => Sys2Proof.Machine.execFmsubH s
  | .fnmsubH => Sys2Proof.Machine.execFnmsubH s
  | .fnmaddH => Sys2Proof.Machine.execFnmaddH s
  | .faddH => Sys2Proof.Machine.execFaddH s
  | .fsubH => Sys2Proof.Machine.execFsubH s
  | .fmulH => Sys2Proof.Machine.execFmulH s
  | .fdivH => Sys2Proof.Machine.execFdivH s
  | .fsqrtH => Sys2Proof.Machine.execFsqrtH s
  | .fsgnjH => Sys2Proof.Machine.execFsgnjH s
  | .fsgnjnH => Sys2Proof.Machine.execFsgnjnH s
  | .fsgnjxH => Sys2Proof.Machine.execFsgnjxH s
  | .fminH => Sys2Proof.Machine.execFminH s
  | .fmaxH => Sys2Proof.Machine.execFmaxH s
  | .fcvtHS => Sys2Proof.Machine.execFcvtHS s
  | .fcvtHD => Sys2Proof.Machine.execFcvtHD s
  | .fcvtHQ => Sys2Proof.Machine.execFcvtHQ s
  | .feqH => Sys2Proof.Machine.execFeqH s
  | .fltH => Sys2Proof.Machine.execFltH s
  | .fleH => Sys2Proof.Machine.execFleH s
  | .fclassH => Sys2Proof.Machine.execFclassH s
  | .fcvtWH => Sys2Proof.Machine.execFcvtWH s
  | .fcvtHW => Sys2Proof.Machine.execFcvtHW s
  | .fcvtWuH => Sys2Proof.Machine.execFcvtWuH s
  | .fcvtHWu => Sys2Proof.Machine.execFcvtHWu s
  | .fcvtLH => Sys2Proof.Machine.execFcvtLH s
  | .fcvtHL => Sys2Proof.Machine.execFcvtHL s
  | .fcvtLuH => Sys2Proof.Machine.execFcvtLuH s
  | .fcvtHLu => Sys2Proof.Machine.execFcvtHLu s
  | .fliH => Sys2Proof.Machine.execFliH s
  | .fminmH => Sys2Proof.Machine.execFminmH s
  | .fmaxmH => Sys2Proof.Machine.execFmaxmH s
  | .froundH => Sys2Proof.Machine.execFroundH s
  | .froundnxH => Sys2Proof.Machine.execFroundnxH s
  | .fleqH => Sys2Proof.Machine.execFleqH s
  | .fltqH => Sys2Proof.Machine.execFltqH s
  | .fmaddQ => Sys2Proof.Machine.execFmaddQ s
  | .fmsubQ => Sys2Proof.Machine.execFmsubQ s
  | .fnmsubQ => Sys2Proof.Machine.execFnmsubQ s
  | .fnmaddQ => Sys2Proof.Machine.execFnmaddQ s
  | .faddQ => Sys2Proof.Machine.execFaddQ s
  | .fsubQ => Sys2Proof.Machine.execFsubQ s
  | .fmulQ => Sys2Proof.Machine.execFmulQ s
  | .fdivQ => Sys2Proof.Machine.execFdivQ s
  | .fsqrtQ => Sys2Proof.Machine.execFsqrtQ s
  | .fsgnjQ => Sys2Proof.Machine.execFsgnjQ s
  | .fsgnjnQ => Sys2Proof.Machine.execFsgnjnQ s
  | .fsgnjxQ => Sys2Proof.Machine.execFsgnjxQ s
  | .fminQ => Sys2Proof.Machine.execFminQ s
  | .fmaxQ => Sys2Proof.Machine.execFmaxQ s
  | .fcvtQS => Sys2Proof.Machine.execFcvtQS s
  | .fcvtQD => Sys2Proof.Machine.execFcvtQD s
  | .fcvtQH => Sys2Proof.Machine.execFcvtQH s
  | .feqQ => Sys2Proof.Machine.execFeqQ s
  | .fltQ => Sys2Proof.Machine.execFltQ s
  | .fleQ => Sys2Proof.Machine.execFleQ s
  | .fclassQ => Sys2Proof.Machine.execFclassQ s
  | .fcvtWQ => Sys2Proof.Machine.execFcvtWQ s
  | .fcvtQW => Sys2Proof.Machine.execFcvtQW s
  | .fcvtWuQ => Sys2Proof.Machine.execFcvtWuQ s
  | .fcvtQWu => Sys2Proof.Machine.execFcvtQWu s
  | .fcvtLQ => Sys2Proof.Machine.execFcvtLQ s
  | .fcvtQL => Sys2Proof.Machine.execFcvtQL s
  | .fcvtLuQ => Sys2Proof.Machine.execFcvtLuQ s
  | .fcvtQLu => Sys2Proof.Machine.execFcvtQLu s
  | .fliQ => Sys2Proof.Machine.execFliQ s
  | .fminmQ => Sys2Proof.Machine.execFminmQ s
  | .fmaxmQ => Sys2Proof.Machine.execFmaxmQ s
  | .froundQ => Sys2Proof.Machine.execFroundQ s
  | .froundnxQ => Sys2Proof.Machine.execFroundnxQ s
  | .fleqQ => Sys2Proof.Machine.execFleqQ s
  | .fltqQ => Sys2Proof.Machine.execFltqQ s
  | .fmvXW => Sys2Proof.Machine.execFmvXW s
  | .fmvXD => Sys2Proof.Machine.execFmvXD s
  | .fmvXH => Sys2Proof.Machine.execFmvXH s
  | .fmvWX => Sys2Proof.Machine.execFmvWX s
  | .fmvDX => Sys2Proof.Machine.execFmvDX s
  | .fmvHX => Sys2Proof.Machine.execFmvHX s
  | .fcvtmodWD => Sys2Proof.Machine.execFcvtmodWD s
  | .fmvhXD => Sys2Proof.Machine.execFmvhXD s
  | .fmvpDX => Sys2Proof.Machine.execFmvpDX s
  | .fmvhXQ => Sys2Proof.Machine.execFmvhXQ s
  | .fmvpQX => Sys2Proof.Machine.execFmvpQX s
  | .sh1add => Sys2Proof.Machine.execSh1add s
  | .sh2add => Sys2Proof.Machine.execSh2add s
  | .sh3add => Sys2Proof.Machine.execSh3add s
  | .addUw => Sys2Proof.Machine.execAddUw s
  | .sh1addUw => Sys2Proof.Machine.execSh1addUw s
  | .sh2addUw => Sys2Proof.Machine.execSh2addUw s
  | .sh3addUw => Sys2Proof.Machine.execSh3addUw s
  | .slliUw => Sys2Proof.Machine.execSlliUw s
  | .andn => Sys2Proof.Machine.execAndn s
  | .orn => Sys2Proof.Machine.execOrn s
  | .xnor => Sys2Proof.Machine.execXnor s
  | .clz => Sys2Proof.Machine.execClz s
  | .ctz => Sys2Proof.Machine.execCtz s
  | .cpop => Sys2Proof.Machine.execCpop s
  | .sextB => Sys2Proof.Machine.execSextB s
  | .sextH => Sys2Proof.Machine.execSextH s
  | .max => Sys2Proof.Machine.execMax s
  | .maxu => Sys2Proof.Machine.execMaxu s
  | .min => Sys2Proof.Machine.execMin s
  | .minu => Sys2Proof.Machine.execMinu s
  | .rol => Sys2Proof.Machine.execRol s
  | .ror => Sys2Proof.Machine.execRor s
  | .rori => Sys2Proof.Machine.execRori s
  | .orcB => Sys2Proof.Machine.execOrcB s
  | .rev8 => Sys2Proof.Machine.execRev8 s
  | .zextH => Sys2Proof.Machine.execZextH s
  | .clzw => Sys2Proof.Machine.execClzw s
  | .ctzw => Sys2Proof.Machine.execCtzw s
  | .cpopw => Sys2Proof.Machine.execCpopw s
  | .rolw => Sys2Proof.Machine.execRolw s
  | .rorw => Sys2Proof.Machine.execRorw s
  | .roriw => Sys2Proof.Machine.execRoriw s
  | .clmul => Sys2Proof.Machine.execClmul s
  | .clmulr => Sys2Proof.Machine.execClmulr s
  | .clmulh => Sys2Proof.Machine.execClmulh s
  | .bclr => Sys2Proof.Machine.execBclr s
  | .bext => Sys2Proof.Machine.execBext s
  | .binv => Sys2Proof.Machine.execBinv s
  | .bset => Sys2Proof.Machine.execBset s
  | .bclri => Sys2Proof.Machine.execBclri s
  | .bexti => Sys2Proof.Machine.execBexti s
  | .binvi => Sys2Proof.Machine.execBinvi s
  | .bseti => Sys2Proof.Machine.execBseti s
  | .pack => Sys2Proof.Machine.execPack s
  | .packh => Sys2Proof.Machine.execPackh s
  | .packw => Sys2Proof.Machine.execPackw s
  | .brev8 => Sys2Proof.Machine.execBrev8 s
  | .zip => Sys2Proof.Machine.execZip s
  | .unzip => Sys2Proof.Machine.execUnzip s
  | .xperm4 => Sys2Proof.Machine.execXperm4 s
  | .xperm8 => Sys2Proof.Machine.execXperm8 s
  | .czeroEqz => Sys2Proof.Machine.execCzeroEqz s
  | .czeroNez => Sys2Proof.Machine.execCzeroNez s
  | .aes32esi => Sys2Proof.Machine.execAes32esi s
  | .aes32esmi => Sys2Proof.Machine.execAes32esmi s
  | .aes32dsi => Sys2Proof.Machine.execAes32dsi s
  | .aes32dsmi => Sys2Proof.Machine.execAes32dsmi s
  | .sm4ed => Sys2Proof.Machine.execSm4ed s
  | .sm4ks => Sys2Proof.Machine.execSm4ks s
  | .aes64es => Sys2Proof.Machine.execAes64es s
  | .aes64esm => Sys2Proof.Machine.execAes64esm s
  | .aes64ds => Sys2Proof.Machine.execAes64ds s
  | .aes64dsm => Sys2Proof.Machine.execAes64dsm s
  | .aes64ks2 => Sys2Proof.Machine.execAes64ks2 s
  | .aes64im => Sys2Proof.Machine.execAes64im s
  | .aes64ks1i => Sys2Proof.Machine.execAes64ks1i s
  | .sha256sum0 => Sys2Proof.Machine.execSha256sum0 s
  | .sha256sum1 => Sys2Proof.Machine.execSha256sum1 s
  | .sha256sig0 => Sys2Proof.Machine.execSha256sig0 s
  | .sha256sig1 => Sys2Proof.Machine.execSha256sig1 s
  | .sha512sum0 => Sys2Proof.Machine.execSha512sum0 s
  | .sha512sum1 => Sys2Proof.Machine.execSha512sum1 s
  | .sha512sig0 => Sys2Proof.Machine.execSha512sig0 s
  | .sha512sig1 => Sys2Proof.Machine.execSha512sig1 s
  | .sha512sum0r => Sys2Proof.Machine.execSha512sum0r s
  | .sha512sum1r => Sys2Proof.Machine.execSha512sum1r s
  | .sha512sig0l => Sys2Proof.Machine.execSha512sig0l s
  | .sha512sig1l => Sys2Proof.Machine.execSha512sig1l s
  | .sha512sig0h => Sys2Proof.Machine.execSha512sig0h s
  | .sha512sig1h => Sys2Proof.Machine.execSha512sig1h s
  | .sm3p0 => Sys2Proof.Machine.execSm3p0 s
  | .sm3p1 => Sys2Proof.Machine.execSm3p1 s
  | .cAddi4spn => Sys2Proof.Machine.execCAddi4spn s
  | .cFld => Sys2Proof.Machine.execCFld s
  | .cLq => Sys2Proof.Machine.execCLq s
  | .cLw => Sys2Proof.Machine.execCLw s
  | .cFlw => Sys2Proof.Machine.execCFlw s
  | .cLd => Sys2Proof.Machine.execCLd s
  | .cLbu => Sys2Proof.Machine.execCLbu s
  | .cLhu => Sys2Proof.Machine.execCLhu s
  | .cLh => Sys2Proof.Machine.execCLh s
  | .cSb => Sys2Proof.Machine.execCSb s
  | .cSh => Sys2Proof.Machine.execCSh s
  | .cFsd => Sys2Proof.Machine.execCFsd s
  | .cSq => Sys2Proof.Machine.execCSq s
  | .cSw => Sys2Proof.Machine.execCSw s
  | .cFsw => Sys2Proof.Machine.execCFsw s
  | .cSd => Sys2Proof.Machine.execCSd s
  | .cNop => Sys2Proof.Machine.execCNop s
  | .cAddi => Sys2Proof.Machine.execCAddi s
  | .cJal => Sys2Proof.Machine.execCJal s
  | .cAddiw => Sys2Proof.Machine.execCAddiw s
  | .cLi => Sys2Proof.Machine.execCLi s
  | .cAddi16sp => Sys2Proof.Machine.execCAddi16sp s
  | .cLui => Sys2Proof.Machine.execCLui s
  | .cSrli => Sys2Proof.Machine.execCSrli s
  | .cSrai => Sys2Proof.Machine.execCSrai s
  | .cAndi => Sys2Proof.Machine.execCAndi s
  | .cSub => Sys2Proof.Machine.execCSub s
  | .cXor => Sys2Proof.Machine.execCXor s
  | .cOr => Sys2Proof.Machine.execCOr s
  | .cAnd => Sys2Proof.Machine.execCAnd s
  | .cSubw => Sys2Proof.Machine.execCSubw s
  | .cAddw => Sys2Proof.Machine.execCAddw s
  | .cMul => Sys2Proof.Machine.execCMul s
  | .cZextB => Sys2Proof.Machine.execCZextB s
  | .cSextB => Sys2Proof.Machine.execCSextB s
  | .cZextH => Sys2Proof.Machine.execCZextH s
  | .cSextH => Sys2Proof.Machine.execCSextH s
  | .cZextW => Sys2Proof.Machine.execCZextW s
  | .cNot => Sys2Proof.Machine.execCNot s
  | .cJ => Sys2Proof.Machine.execCJ s
  | .cBeqz => Sys2Proof.Machine.execCBeqz s
  | .cBnez => Sys2Proof.Machine.execCBnez s
  | .cSlli => Sys2Proof.Machine.execCSlli s
  | .cFldsp => Sys2Proof.Machine.execCFldsp s
  | .cLqsp => Sys2Proof.Machine.execCLqsp s
  | .cLwsp => Sys2Proof.Machine.execCLwsp s
  | .cFlwsp => Sys2Proof.Machine.execCFlwsp s
  | .cLdsp => Sys2Proof.Machine.execCLdsp s
  | .cJr => Sys2Proof.Machine.execCJr s
  | .cMv => Sys2Proof.Machine.execCMv s
  | .cEbreak => Sys2Proof.Machine.execCEbreak s
  | .cJalr => Sys2Proof.Machine.execCJalr s
  | .cAdd => Sys2Proof.Machine.execCAdd s
  | .cFsdsp => Sys2Proof.Machine.execCFsdsp s
  | .cSqsp => Sys2Proof.Machine.execCSqsp s
  | .cSwsp => Sys2Proof.Machine.execCSwsp s
  | .cFswsp => Sys2Proof.Machine.execCFswsp s
  | .cSdsp => Sys2Proof.Machine.execCSdsp s
  | .cmPush => Sys2Proof.Machine.execCmPush s
  | .cmPop => Sys2Proof.Machine.execCmPop s
  | .cmPopretz => Sys2Proof.Machine.execCmPopretz s
  | .cmPopret => Sys2Proof.Machine.execCmPopret s
  | .cmMvsa01 => Sys2Proof.Machine.execCmMvsa01 s
  | .cmMva01s => Sys2Proof.Machine.execCmMva01s s
  | .cmJt => Sys2Proof.Machine.execCmJt s
  | .cmJalt => Sys2Proof.Machine.execCmJalt s
  | .vsetvli => Sys2Proof.Machine.execVsetvli s
  | .vsetivli => Sys2Proof.Machine.execVsetivli s
  | .vsetvl => Sys2Proof.Machine.execVsetvl s
  | .vaddVv => Sys2Proof.Machine.execVaddVv s
  | .vaddVx => Sys2Proof.Machine.execVaddVx s
  | .vaddVi => Sys2Proof.Machine.execVaddVi s
  | .vsubVv => Sys2Proof.Machine.execVsubVv s
  | .vsubVx => Sys2Proof.Machine.execVsubVx s
  | .vrsubVx => Sys2Proof.Machine.execVrsubVx s
  | .vrsubVi => Sys2Proof.Machine.execVrsubVi s
  | .vminuVv => Sys2Proof.Machine.execVminuVv s
  | .vminuVx => Sys2Proof.Machine.execVminuVx s
  | .vminVv => Sys2Proof.Machine.execVminVv s
  | .vminVx => Sys2Proof.Machine.execVminVx s
  | .vmaxuVv => Sys2Proof.Machine.execVmaxuVv s
  | .vmaxuVx => Sys2Proof.Machine.execVmaxuVx s
  | .vmaxVv => Sys2Proof.Machine.execVmaxVv s
  | .vmaxVx => Sys2Proof.Machine.execVmaxVx s
  | .vandVv => Sys2Proof.Machine.execVandVv s
  | .vandVx => Sys2Proof.Machine.execVandVx s
  | .vandVi => Sys2Proof.Machine.execVandVi s
  | .vorVv => Sys2Proof.Machine.execVorVv s
  | .vorVx => Sys2Proof.Machine.execVorVx s
  | .vorVi => Sys2Proof.Machine.execVorVi s
  | .vxorVv => Sys2Proof.Machine.execVxorVv s
  | .vxorVx => Sys2Proof.Machine.execVxorVx s
  | .vxorVi => Sys2Proof.Machine.execVxorVi s
  | .vrgatherVv => Sys2Proof.Machine.execVrgatherVv s
  | .vrgatherVx => Sys2Proof.Machine.execVrgatherVx s
  | .vrgatherVi => Sys2Proof.Machine.execVrgatherVi s
  | .vslidedownVx => Sys2Proof.Machine.execVslidedownVx s
  | .vslidedownVi => Sys2Proof.Machine.execVslidedownVi s
  | .vmseqVv => Sys2Proof.Machine.execVmseqVv s
  | .vmseqVx => Sys2Proof.Machine.execVmseqVx s
  | .vmseqVi => Sys2Proof.Machine.execVmseqVi s
  | .vmsneVv => Sys2Proof.Machine.execVmsneVv s
  | .vmsneVx => Sys2Proof.Machine.execVmsneVx s
  | .vmsneVi => Sys2Proof.Machine.execVmsneVi s
  | .vmsltuVv => Sys2Proof.Machine.execVmsltuVv s
  | .vmsltuVx => Sys2Proof.Machine.execVmsltuVx s
  | .vmsltVv => Sys2Proof.Machine.execVmsltVv s
  | .vmsltVx => Sys2Proof.Machine.execVmsltVx s
  | .vmsleuVv => Sys2Proof.Machine.execVmsleuVv s
  | .vmsleuVx => Sys2Proof.Machine.execVmsleuVx s
  | .vmsleuVi => Sys2Proof.Machine.execVmsleuVi s
  | .vmsleVv => Sys2Proof.Machine.execVmsleVv s
  | .vmsleVx => Sys2Proof.Machine.execVmsleVx s
  | .vmsleVi => Sys2Proof.Machine.execVmsleVi s
  | .vmsgtuVx => Sys2Proof.Machine.execVmsgtuVx s
  | .vmsgtuVi => Sys2Proof.Machine.execVmsgtuVi s
  | .vmsgtVx => Sys2Proof.Machine.execVmsgtVx s
  | .vmsgtVi => Sys2Proof.Machine.execVmsgtVi s
  | .vsadduVv => Sys2Proof.Machine.execVsadduVv s
  | .vsadduVx => Sys2Proof.Machine.execVsadduVx s
  | .vsadduVi => Sys2Proof.Machine.execVsadduVi s
  | .vsaddVv => Sys2Proof.Machine.execVsaddVv s
  | .vsaddVx => Sys2Proof.Machine.execVsaddVx s
  | .vsaddVi => Sys2Proof.Machine.execVsaddVi s
  | .vssubuVv => Sys2Proof.Machine.execVssubuVv s
  | .vssubuVx => Sys2Proof.Machine.execVssubuVx s
  | .vssubVv => Sys2Proof.Machine.execVssubVv s
  | .vssubVx => Sys2Proof.Machine.execVssubVx s
  | .vsllVv => Sys2Proof.Machine.execVsllVv s
  | .vsllVx => Sys2Proof.Machine.execVsllVx s
  | .vsllVi => Sys2Proof.Machine.execVsllVi s
  | .vsmulVv => Sys2Proof.Machine.execVsmulVv s
  | .vsmulVx => Sys2Proof.Machine.execVsmulVx s
  | .vsrlVv => Sys2Proof.Machine.execVsrlVv s
  | .vsrlVx => Sys2Proof.Machine.execVsrlVx s
  | .vsrlVi => Sys2Proof.Machine.execVsrlVi s
  | .vsraVv => Sys2Proof.Machine.execVsraVv s
  | .vsraVx => Sys2Proof.Machine.execVsraVx s
  | .vsraVi => Sys2Proof.Machine.execVsraVi s
  | .vssrlVv => Sys2Proof.Machine.execVssrlVv s
  | .vssrlVx => Sys2Proof.Machine.execVssrlVx s
  | .vssrlVi => Sys2Proof.Machine.execVssrlVi s
  | .vssraVv => Sys2Proof.Machine.execVssraVv s
  | .vssraVx => Sys2Proof.Machine.execVssraVx s
  | .vssraVi => Sys2Proof.Machine.execVssraVi s
  | .vnsrlWv => Sys2Proof.Machine.execVnsrlWv s
  | .vnsrlWx => Sys2Proof.Machine.execVnsrlWx s
  | .vnsrlWi => Sys2Proof.Machine.execVnsrlWi s
  | .vnsraWv => Sys2Proof.Machine.execVnsraWv s
  | .vnsraWx => Sys2Proof.Machine.execVnsraWx s
  | .vnsraWi => Sys2Proof.Machine.execVnsraWi s
  | .vnclipuWv => Sys2Proof.Machine.execVnclipuWv s
  | .vnclipuWx => Sys2Proof.Machine.execVnclipuWx s
  | .vnclipuWi => Sys2Proof.Machine.execVnclipuWi s
  | .vnclipWv => Sys2Proof.Machine.execVnclipWv s
  | .vnclipWx => Sys2Proof.Machine.execVnclipWx s
  | .vnclipWi => Sys2Proof.Machine.execVnclipWi s
  | .vrgatherei16Vv => Sys2Proof.Machine.execVrgatherei16Vv s
  | .vslideupVx => Sys2Proof.Machine.execVslideupVx s
  | .vslideupVi => Sys2Proof.Machine.execVslideupVi s
  | .vadcVvm => Sys2Proof.Machine.execVadcVvm s
  | .vadcVxm => Sys2Proof.Machine.execVadcVxm s
  | .vadcVim => Sys2Proof.Machine.execVadcVim s
  | .vmadcVvm => Sys2Proof.Machine.execVmadcVvm s
  | .vmadcVxm => Sys2Proof.Machine.execVmadcVxm s
  | .vmadcVim => Sys2Proof.Machine.execVmadcVim s
  | .vmadcVv => Sys2Proof.Machine.execVmadcVv s
  | .vmadcVx => Sys2Proof.Machine.execVmadcVx s
  | .vmadcVi => Sys2Proof.Machine.execVmadcVi s
  | .vsbcVvm => Sys2Proof.Machine.execVsbcVvm s
  | .vsbcVxm => Sys2Proof.Machine.execVsbcVxm s
  | .vmsbcVvm => Sys2Proof.Machine.execVmsbcVvm s
  | .vmsbcVxm => Sys2Proof.Machine.execVmsbcVxm s
  | .vmsbcVv => Sys2Proof.Machine.execVmsbcVv s
  | .vmsbcVx => Sys2Proof.Machine.execVmsbcVx s
  | .vmergeVvm => Sys2Proof.Machine.execVmergeVvm s
  | .vmergeVxm => Sys2Proof.Machine.execVmergeVxm s
  | .vmergeVim => Sys2Proof.Machine.execVmergeVim s
  | .vmvVV => Sys2Proof.Machine.execVmvVV s
  | .vmvVX => Sys2Proof.Machine.execVmvVX s
  | .vmvVI => Sys2Proof.Machine.execVmvVI s
  | .vmv1rV => Sys2Proof.Machine.execVmv1rV s
  | .vmv2rV => Sys2Proof.Machine.execVmv2rV s
  | .vmv4rV => Sys2Proof.Machine.execVmv4rV s
  | .vmv8rV => Sys2Proof.Machine.execVmv8rV s
  | .vwredsumuVs => Sys2Proof.Machine.execVwredsumuVs s
  | .vwredsumVs => Sys2Proof.Machine.execVwredsumVs s
  | .vredsumVs => Sys2Proof.Machine.execVredsumVs s
  | .vredandVs => Sys2Proof.Machine.execVredandVs s
  | .vredorVs => Sys2Proof.Machine.execVredorVs s
  | .vredxorVs => Sys2Proof.Machine.execVredxorVs s
  | .vredminuVs => Sys2Proof.Machine.execVredminuVs s
  | .vredminVs => Sys2Proof.Machine.execVredminVs s
  | .vredmaxuVs => Sys2Proof.Machine.execVredmaxuVs s
  | .vredmaxVs => Sys2Proof.Machine.execVredmaxVs s
  | .vaadduVv => Sys2Proof.Machine.execVaadduVv s
  | .vaadduVx => Sys2Proof.Machine.execVaadduVx s
  | .vaaddVv => Sys2Proof.Machine.execVaaddVv s
  | .vaaddVx => Sys2Proof.Machine.execVaaddVx s
  | .vasubuVv => Sys2Proof.Machine.execVasubuVv s
  | .vasubuVx => Sys2Proof.Machine.execVasubuVx s
  | .vasubVv => Sys2Proof.Machine.execVasubVv s
  | .vasubVx => Sys2Proof.Machine.execVasubVx s
  | .vdivuVv => Sys2Proof.Machine.execVdivuVv s
  | .vdivuVx => Sys2Proof.Machine.execVdivuVx s
  | .vdivVv => Sys2Proof.Machine.execVdivVv s
  | .vdivVx => Sys2Proof.Machine.execVdivVx s
  | .vremuVv => Sys2Proof.Machine.execVremuVv s
  | .vremuVx => Sys2Proof.Machine.execVremuVx s
  | .vremVv => Sys2Proof.Machine.execVremVv s
  | .vremVx => Sys2Proof.Machine.execVremVx s
  | .vmulhuVv => Sys2Proof.Machine.execVmulhuVv s
  | .vmulhuVx => Sys2Proof.Machine.execVmulhuVx s
  | .vmulVv => Sys2Proof.Machine.execVmulVv s
  | .vmulVx => Sys2Proof.Machine.execVmulVx s
  | .vmulhsuVv => Sys2Proof.Machine.execVmulhsuVv s
  | .vmulhsuVx => Sys2Proof.Machine.execVmulhsuVx s
  | .vmulhVv => Sys2Proof.Machine.execVmulhVv s
  | .vmulhVx => Sys2Proof.Machine.execVmulhVx s
  | .vmaddVv => Sys2Proof.Machine.execVmaddVv s
  | .vmaddVx => Sys2Proof.Machine.execVmaddVx s
  | .vnmsubVv => Sys2Proof.Machine.execVnmsubVv s
  | .vnmsubVx => Sys2Proof.Machine.execVnmsubVx s
  | .vmaccVv => Sys2Proof.Machine.execVmaccVv s
  | .vmaccVx => Sys2Proof.Machine.execVmaccVx s
  | .vnmsacVv => Sys2Proof.Machine.execVnmsacVv s
  | .vnmsacVx => Sys2Proof.Machine.execVnmsacVx s
  | .vwadduVv => Sys2Proof.Machine.execVwadduVv s
  | .vwadduVx => Sys2Proof.Machine.execVwadduVx s
  | .vwaddVv => Sys2Proof.Machine.execVwaddVv s
  | .vwaddVx => Sys2Proof.Machine.execVwaddVx s
  | .vwsubuVv => Sys2Proof.Machine.execVwsubuVv s
  | .vwsubuVx => Sys2Proof.Machine.execVwsubuVx s
  | .vwsubVv => Sys2Proof.Machine.execVwsubVv s
  | .vwsubVx => Sys2Proof.Machine.execVwsubVx s
  | .vwmuluVv => Sys2Proof.Machine.execVwmuluVv s
  | .vwmuluVx => Sys2Proof.Machine.execVwmuluVx s
  | .vwmulsuVv => Sys2Proof.Machine.execVwmulsuVv s
  | .vwmulsuVx => Sys2Proof.Machine.execVwmulsuVx s
  | .vwmulVv => Sys2Proof.Machine.execVwmulVv s
  | .vwmulVx => Sys2Proof.Machine.execVwmulVx s
  | .vwmaccuVv => Sys2Proof.Machine.execVwmaccuVv s
  | .vwmaccuVx => Sys2Proof.Machine.execVwmaccuVx s
  | .vwmaccVv => Sys2Proof.Machine.execVwmaccVv s
  | .vwmaccVx => Sys2Proof.Machine.execVwmaccVx s
  | .vwmaccusVx => Sys2Proof.Machine.execVwmaccusVx s
  | .vwmaccsuVv => Sys2Proof.Machine.execVwmaccsuVv s
  | .vwmaccsuVx => Sys2Proof.Machine.execVwmaccsuVx s
  | .vwadduWv => Sys2Proof.Machine.execVwadduWv s
  | .vwadduWx => Sys2Proof.Machine.execVwadduWx s
  | .vwaddWv => Sys2Proof.Machine.execVwaddWv s
  | .vwaddWx => Sys2Proof.Machine.execVwaddWx s
  | .vwsubuWv => Sys2Proof.Machine.execVwsubuWv s
  | .vwsubuWx => Sys2Proof.Machine.execVwsubuWx s
  | .vwsubWv => Sys2Proof.Machine.execVwsubWv s
  | .vwsubWx => Sys2Proof.Machine.execVwsubWx s
  | .vslide1upVx => Sys2Proof.Machine.execVslide1upVx s
  | .vslide1downVx => Sys2Proof.Machine.execVslide1downVx s
  | .vmvXS => Sys2Proof.Machine.execVmvXS s
  | .vcpopM => Sys2Proof.Machine.execVcpopM s
  | .vfirstM => Sys2Proof.Machine.execVfirstM s
  | .vmvSX => Sys2Proof.Machine.execVmvSX s
  | .vzextVf8 => Sys2Proof.Machine.execVzextVf8 s
  | .vsextVf8 => Sys2Proof.Machine.execVsextVf8 s
  | .vzextVf4 => Sys2Proof.Machine.execVzextVf4 s
  | .vsextVf4 => Sys2Proof.Machine.execVsextVf4 s
  | .vzextVf2 => Sys2Proof.Machine.execVzextVf2 s
  | .vsextVf2 => Sys2Proof.Machine.execVsextVf2 s
  | .vmsbfM => Sys2Proof.Machine.execVmsbfM s
  | .vmsofM => Sys2Proof.Machine.execVmsofM s
  | .vmsifM => Sys2Proof.Machine.execVmsifM s
  | .viotaM => Sys2Proof.Machine.execViotaM s
  | .vidV => Sys2Proof.Machine.execVidV s
  | .vcompressVm => Sys2Proof.Machine.execVcompressVm s
  | .vmandnMm => Sys2Proof.Machine.execVmandnMm s
  | .vmandMm => Sys2Proof.Machine.execVmandMm s
  | .vmorMm => Sys2Proof.Machine.execVmorMm s
  | .vmxorMm => Sys2Proof.Machine.execVmxorMm s
  | .vmornMm => Sys2Proof.Machine.execVmornMm s
  | .vmnandMm => Sys2Proof.Machine.execVmnandMm s
  | .vmnorMm => Sys2Proof.Machine.execVmnorMm s
  | .vmxnorMm => Sys2Proof.Machine.execVmxnorMm s
  | .vfaddVv => Sys2Proof.Machine.execVfaddVv s
  | .vfaddVf => Sys2Proof.Machine.execVfaddVf s
  | .vfsubVv => Sys2Proof.Machine.execVfsubVv s
  | .vfsubVf => Sys2Proof.Machine.execVfsubVf s
  | .vfminVv => Sys2Proof.Machine.execVfminVv s
  | .vfminVf => Sys2Proof.Machine.execVfminVf s
  | .vfmaxVv => Sys2Proof.Machine.execVfmaxVv s
  | .vfmaxVf => Sys2Proof.Machine.execVfmaxVf s
  | .vfsgnjVv => Sys2Proof.Machine.execVfsgnjVv s
  | .vfsgnjVf => Sys2Proof.Machine.execVfsgnjVf s
  | .vfsgnjnVv => Sys2Proof.Machine.execVfsgnjnVv s
  | .vfsgnjnVf => Sys2Proof.Machine.execVfsgnjnVf s
  | .vfsgnjxVv => Sys2Proof.Machine.execVfsgnjxVv s
  | .vfsgnjxVf => Sys2Proof.Machine.execVfsgnjxVf s
  | .vfslide1upVf => Sys2Proof.Machine.execVfslide1upVf s
  | .vfslide1downVf => Sys2Proof.Machine.execVfslide1downVf s
  | .vmfeqVv => Sys2Proof.Machine.execVmfeqVv s
  | .vmfeqVf => Sys2Proof.Machine.execVmfeqVf s
  | .vmfleVv => Sys2Proof.Machine.execVmfleVv s
  | .vmfleVf => Sys2Proof.Machine.execVmfleVf s
  | .vmfltVv => Sys2Proof.Machine.execVmfltVv s
  | .vmfltVf => Sys2Proof.Machine.execVmfltVf s
  | .vmfneVv => Sys2Proof.Machine.execVmfneVv s
  | .vmfneVf => Sys2Proof.Machine.execVmfneVf s
  | .vmfgtVf => Sys2Proof.Machine.execVmfgtVf s
  | .vmfgeVf => Sys2Proof.Machine.execVmfgeVf s
  | .vfdivVv => Sys2Proof.Machine.execVfdivVv s
  | .vfdivVf => Sys2Proof.Machine.execVfdivVf s
  | .vfrdivVf => Sys2Proof.Machine.execVfrdivVf s
  | .vfmulVv => Sys2Proof.Machine.execVfmulVv s
  | .vfmulVf => Sys2Proof.Machine.execVfmulVf s
  | .vfrsubVf => Sys2Proof.Machine.execVfrsubVf s
  | .vfmaddVv => Sys2Proof.Machine.execVfmaddVv s
  | .vfmaddVf => Sys2Proof.Machine.execVfmaddVf s
  | .vfnmaddVv => Sys2Proof.Machine.execVfnmaddVv s
  | .vfnmaddVf => Sys2Proof.Machine.execVfnmaddVf s
  | .vfmsubVv => Sys2Proof.Machine.execVfmsubVv s
  | .vfmsubVf => Sys2Proof.Machine.execVfmsubVf s
  | .vfnmsubVv => Sys2Proof.Machine.execVfnmsubVv s
  | .vfnmsubVf => Sys2Proof.Machine.execVfnmsubVf s
  | .vfmaccVv => Sys2Proof.Machine.execVfmaccVv s
  | .vfmaccVf => Sys2Proof.Machine.execVfmaccVf s
  | .vfnmaccVv => Sys2Proof.Machine.execVfnmaccVv s
  | .vfnmaccVf => Sys2Proof.Machine.execVfnmaccVf s
  | .vfmsacVv => Sys2Proof.Machine.execVfmsacVv s
  | .vfmsacVf => Sys2Proof.Machine.execVfmsacVf s
  | .vfnmsacVv => Sys2Proof.Machine.execVfnmsacVv s
  | .vfnmsacVf => Sys2Proof.Machine.execVfnmsacVf s
  | .vfwaddVv => Sys2Proof.Machine.execVfwaddVv s
  | .vfwaddVf => Sys2Proof.Machine.execVfwaddVf s
  | .vfwsubVv => Sys2Proof.Machine.execVfwsubVv s
  | .vfwsubVf => Sys2Proof.Machine.execVfwsubVf s
  | .vfwmulVv => Sys2Proof.Machine.execVfwmulVv s
  | .vfwmulVf => Sys2Proof.Machine.execVfwmulVf s
  | .vfwmaccVv => Sys2Proof.Machine.execVfwmaccVv s
  | .vfwmaccVf => Sys2Proof.Machine.execVfwmaccVf s
  | .vfwnmaccVv => Sys2Proof.Machine.execVfwnmaccVv s
  | .vfwnmaccVf => Sys2Proof.Machine.execVfwnmaccVf s
  | .vfwmsacVv => Sys2Proof.Machine.execVfwmsacVv s
  | .vfwmsacVf => Sys2Proof.Machine.execVfwmsacVf s
  | .vfwnmsacVv => Sys2Proof.Machine.execVfwnmsacVv s
  | .vfwnmsacVf => Sys2Proof.Machine.execVfwnmsacVf s
  | .vfredusumVs => Sys2Proof.Machine.execVfredusumVs s
  | .vfredosumVs => Sys2Proof.Machine.execVfredosumVs s
  | .vfredminVs => Sys2Proof.Machine.execVfredminVs s
  | .vfredmaxVs => Sys2Proof.Machine.execVfredmaxVs s
  | .vfwredusumVs => Sys2Proof.Machine.execVfwredusumVs s
  | .vfwredosumVs => Sys2Proof.Machine.execVfwredosumVs s
  | .vfwaddWv => Sys2Proof.Machine.execVfwaddWv s
  | .vfwaddWf => Sys2Proof.Machine.execVfwaddWf s
  | .vfwsubWv => Sys2Proof.Machine.execVfwsubWv s
  | .vfwsubWf => Sys2Proof.Machine.execVfwsubWf s
  | .vfmvFS => Sys2Proof.Machine.execVfmvFS s
  | .vfmvSF => Sys2Proof.Machine.execVfmvSF s
  | .vfcvtXuFV => Sys2Proof.Machine.execVfcvtXuFV s
  | .vfcvtXFV => Sys2Proof.Machine.execVfcvtXFV s
  | .vfcvtFXuV => Sys2Proof.Machine.execVfcvtFXuV s
  | .vfcvtFXV => Sys2Proof.Machine.execVfcvtFXV s
  | .vfcvtRtzXuFV => Sys2Proof.Machine.execVfcvtRtzXuFV s
  | .vfcvtRtzXFV => Sys2Proof.Machine.execVfcvtRtzXFV s
  | .vfwcvtXuFV => Sys2Proof.Machine.execVfwcvtXuFV s
  | .vfwcvtXFV => Sys2Proof.Machine.execVfwcvtXFV s
  | .vfwcvtFXuV => Sys2Proof.Machine.execVfwcvtFXuV s
  | .vfwcvtFXV => Sys2Proof.Machine.execVfwcvtFXV s
  | .vfwcvtFFV => Sys2Proof.Machine.execVfwcvtFFV s
  | .vfwcvtRtzXuFV => Sys2Proof.Machine.execVfwcvtRtzXuFV s
  | .vfwcvtRtzXFV => Sys2Proof.Machine.execVfwcvtRtzXFV s
  | .vfncvtXuFW => Sys2Proof.Machine.execVfncvtXuFW s
  | .vfncvtXFW => Sys2Proof.Machine.execVfncvtXFW s
  | .vfncvtFXuW => Sys2Proof.Machine.execVfncvtFXuW s
  | .vfncvtFXW => Sys2Proof.Machine.execVfncvtFXW s
  | .vfncvtFFW => Sys2Proof.Machine.execVfncvtFFW s
  | .vfncvtRodFFW => Sys2Proof.Machine.execVfncvtRodFFW s
  | .vfncvtRtzXuFW => Sys2Proof.Machine.execVfncvtRtzXuFW s
  | .vfncvtRtzXFW => Sys2Proof.Machine.execVfncvtRtzXFW s
  | .vfsqrtV => Sys2Proof.Machine.execVfsqrtV s
  | .vfrsqrt7V => Sys2Proof.Machine.execVfrsqrt7V s
  | .vfrec7V => Sys2Proof.Machine.execVfrec7V s
  | .vfclassV => Sys2Proof.Machine.execVfclassV s
  | .vfmergeVfm => Sys2Proof.Machine.execVfmergeVfm s
  | .vfmvVF => Sys2Proof.Machine.execVfmvVF s
  | .vle8V => Sys2Proof.Machine.execVle8V s
  | .vle8ffV => Sys2Proof.Machine.execVle8ffV s
  | .vse8V => Sys2Proof.Machine.execVse8V s
  | .vlse8V => Sys2Proof.Machine.execVlse8V s
  | .vsse8V => Sys2Proof.Machine.execVsse8V s
  | .vluxei8V => Sys2Proof.Machine.execVluxei8V s
  | .vsuxei8V => Sys2Proof.Machine.execVsuxei8V s
  | .vloxei8V => Sys2Proof.Machine.execVloxei8V s
  | .vsoxei8V => Sys2Proof.Machine.execVsoxei8V s
  | .vlseg2e8V => Sys2Proof.Machine.execVlseg2e8V s
  | .vlseg2e8ffV => Sys2Proof.Machine.execVlseg2e8ffV s
  | .vsseg2e8V => Sys2Proof.Machine.execVsseg2e8V s
  | .vlsseg2e8V => Sys2Proof.Machine.execVlsseg2e8V s
  | .vssseg2e8V => Sys2Proof.Machine.execVssseg2e8V s
  | .vluxseg2ei8V => Sys2Proof.Machine.execVluxseg2ei8V s
  | .vsuxseg2ei8V => Sys2Proof.Machine.execVsuxseg2ei8V s
  | .vloxseg2ei8V => Sys2Proof.Machine.execVloxseg2ei8V s
  | .vsoxseg2ei8V => Sys2Proof.Machine.execVsoxseg2ei8V s
  | .vlseg3e8V => Sys2Proof.Machine.execVlseg3e8V s
  | .vlseg3e8ffV => Sys2Proof.Machine.execVlseg3e8ffV s
  | .vsseg3e8V => Sys2Proof.Machine.execVsseg3e8V s
  | .vlsseg3e8V => Sys2Proof.Machine.execVlsseg3e8V s
  | .vssseg3e8V => Sys2Proof.Machine.execVssseg3e8V s
  | .vluxseg3ei8V => Sys2Proof.Machine.execVluxseg3ei8V s
  | .vsuxseg3ei8V => Sys2Proof.Machine.execVsuxseg3ei8V s
  | .vloxseg3ei8V => Sys2Proof.Machine.execVloxseg3ei8V s
  | .vsoxseg3ei8V => Sys2Proof.Machine.execVsoxseg3ei8V s
  | .vlseg4e8V => Sys2Proof.Machine.execVlseg4e8V s
  | .vlseg4e8ffV => Sys2Proof.Machine.execVlseg4e8ffV s
  | .vsseg4e8V => Sys2Proof.Machine.execVsseg4e8V s
  | .vlsseg4e8V => Sys2Proof.Machine.execVlsseg4e8V s
  | .vssseg4e8V => Sys2Proof.Machine.execVssseg4e8V s
  | .vluxseg4ei8V => Sys2Proof.Machine.execVluxseg4ei8V s
  | .vsuxseg4ei8V => Sys2Proof.Machine.execVsuxseg4ei8V s
  | .vloxseg4ei8V => Sys2Proof.Machine.execVloxseg4ei8V s
  | .vsoxseg4ei8V => Sys2Proof.Machine.execVsoxseg4ei8V s
  | .vlseg5e8V => Sys2Proof.Machine.execVlseg5e8V s
  | .vlseg5e8ffV => Sys2Proof.Machine.execVlseg5e8ffV s
  | .vsseg5e8V => Sys2Proof.Machine.execVsseg5e8V s
  | .vlsseg5e8V => Sys2Proof.Machine.execVlsseg5e8V s
  | .vssseg5e8V => Sys2Proof.Machine.execVssseg5e8V s
  | .vluxseg5ei8V => Sys2Proof.Machine.execVluxseg5ei8V s
  | .vsuxseg5ei8V => Sys2Proof.Machine.execVsuxseg5ei8V s
  | .vloxseg5ei8V => Sys2Proof.Machine.execVloxseg5ei8V s
  | .vsoxseg5ei8V => Sys2Proof.Machine.execVsoxseg5ei8V s
  | .vlseg6e8V => Sys2Proof.Machine.execVlseg6e8V s
  | .vlseg6e8ffV => Sys2Proof.Machine.execVlseg6e8ffV s
  | .vsseg6e8V => Sys2Proof.Machine.execVsseg6e8V s
  | .vlsseg6e8V => Sys2Proof.Machine.execVlsseg6e8V s
  | .vssseg6e8V => Sys2Proof.Machine.execVssseg6e8V s
  | .vluxseg6ei8V => Sys2Proof.Machine.execVluxseg6ei8V s
  | .vsuxseg6ei8V => Sys2Proof.Machine.execVsuxseg6ei8V s
  | .vloxseg6ei8V => Sys2Proof.Machine.execVloxseg6ei8V s
  | .vsoxseg6ei8V => Sys2Proof.Machine.execVsoxseg6ei8V s
  | .vlseg7e8V => Sys2Proof.Machine.execVlseg7e8V s
  | .vlseg7e8ffV => Sys2Proof.Machine.execVlseg7e8ffV s
  | .vsseg7e8V => Sys2Proof.Machine.execVsseg7e8V s
  | .vlsseg7e8V => Sys2Proof.Machine.execVlsseg7e8V s
  | .vssseg7e8V => Sys2Proof.Machine.execVssseg7e8V s
  | .vluxseg7ei8V => Sys2Proof.Machine.execVluxseg7ei8V s
  | .vsuxseg7ei8V => Sys2Proof.Machine.execVsuxseg7ei8V s
  | .vloxseg7ei8V => Sys2Proof.Machine.execVloxseg7ei8V s
  | .vsoxseg7ei8V => Sys2Proof.Machine.execVsoxseg7ei8V s
  | .vlseg8e8V => Sys2Proof.Machine.execVlseg8e8V s
  | .vlseg8e8ffV => Sys2Proof.Machine.execVlseg8e8ffV s
  | .vsseg8e8V => Sys2Proof.Machine.execVsseg8e8V s
  | .vlsseg8e8V => Sys2Proof.Machine.execVlsseg8e8V s
  | .vssseg8e8V => Sys2Proof.Machine.execVssseg8e8V s
  | .vluxseg8ei8V => Sys2Proof.Machine.execVluxseg8ei8V s
  | .vsuxseg8ei8V => Sys2Proof.Machine.execVsuxseg8ei8V s
  | .vloxseg8ei8V => Sys2Proof.Machine.execVloxseg8ei8V s
  | .vsoxseg8ei8V => Sys2Proof.Machine.execVsoxseg8ei8V s
  | .vl1re8V => Sys2Proof.Machine.execVl1re8V s
  | .vl2re8V => Sys2Proof.Machine.execVl2re8V s
  | .vl4re8V => Sys2Proof.Machine.execVl4re8V s
  | .vl8re8V => Sys2Proof.Machine.execVl8re8V s
  | .vle16V => Sys2Proof.Machine.execVle16V s
  | .vle16ffV => Sys2Proof.Machine.execVle16ffV s
  | .vse16V => Sys2Proof.Machine.execVse16V s
  | .vlse16V => Sys2Proof.Machine.execVlse16V s
  | .vsse16V => Sys2Proof.Machine.execVsse16V s
  | .vluxei16V => Sys2Proof.Machine.execVluxei16V s
  | .vsuxei16V => Sys2Proof.Machine.execVsuxei16V s
  | .vloxei16V => Sys2Proof.Machine.execVloxei16V s
  | .vsoxei16V => Sys2Proof.Machine.execVsoxei16V s
  | .vlseg2e16V => Sys2Proof.Machine.execVlseg2e16V s
  | .vlseg2e16ffV => Sys2Proof.Machine.execVlseg2e16ffV s
  | .vsseg2e16V => Sys2Proof.Machine.execVsseg2e16V s
  | .vlsseg2e16V => Sys2Proof.Machine.execVlsseg2e16V s
  | .vssseg2e16V => Sys2Proof.Machine.execVssseg2e16V s
  | .vluxseg2ei16V => Sys2Proof.Machine.execVluxseg2ei16V s
  | .vsuxseg2ei16V => Sys2Proof.Machine.execVsuxseg2ei16V s
  | .vloxseg2ei16V => Sys2Proof.Machine.execVloxseg2ei16V s
  | .vsoxseg2ei16V => Sys2Proof.Machine.execVsoxseg2ei16V s
  | .vlseg3e16V => Sys2Proof.Machine.execVlseg3e16V s
  | .vlseg3e16ffV => Sys2Proof.Machine.execVlseg3e16ffV s
  | .vsseg3e16V => Sys2Proof.Machine.execVsseg3e16V s
  | .vlsseg3e16V => Sys2Proof.Machine.execVlsseg3e16V s
  | .vssseg3e16V => Sys2Proof.Machine.execVssseg3e16V s
  | .vluxseg3ei16V => Sys2Proof.Machine.execVluxseg3ei16V s
  | .vsuxseg3ei16V => Sys2Proof.Machine.execVsuxseg3ei16V s
  | .vloxseg3ei16V => Sys2Proof.Machine.execVloxseg3ei16V s
  | .vsoxseg3ei16V => Sys2Proof.Machine.execVsoxseg3ei16V s
  | .vlseg4e16V => Sys2Proof.Machine.execVlseg4e16V s
  | .vlseg4e16ffV => Sys2Proof.Machine.execVlseg4e16ffV s
  | .vsseg4e16V => Sys2Proof.Machine.execVsseg4e16V s
  | .vlsseg4e16V => Sys2Proof.Machine.execVlsseg4e16V s
  | .vssseg4e16V => Sys2Proof.Machine.execVssseg4e16V s
  | .vluxseg4ei16V => Sys2Proof.Machine.execVluxseg4ei16V s
  | .vsuxseg4ei16V => Sys2Proof.Machine.execVsuxseg4ei16V s
  | .vloxseg4ei16V => Sys2Proof.Machine.execVloxseg4ei16V s
  | .vsoxseg4ei16V => Sys2Proof.Machine.execVsoxseg4ei16V s
  | .vlseg5e16V => Sys2Proof.Machine.execVlseg5e16V s
  | .vlseg5e16ffV => Sys2Proof.Machine.execVlseg5e16ffV s
  | .vsseg5e16V => Sys2Proof.Machine.execVsseg5e16V s
  | .vlsseg5e16V => Sys2Proof.Machine.execVlsseg5e16V s
  | .vssseg5e16V => Sys2Proof.Machine.execVssseg5e16V s
  | .vluxseg5ei16V => Sys2Proof.Machine.execVluxseg5ei16V s
  | .vsuxseg5ei16V => Sys2Proof.Machine.execVsuxseg5ei16V s
  | .vloxseg5ei16V => Sys2Proof.Machine.execVloxseg5ei16V s
  | .vsoxseg5ei16V => Sys2Proof.Machine.execVsoxseg5ei16V s
  | .vlseg6e16V => Sys2Proof.Machine.execVlseg6e16V s
  | .vlseg6e16ffV => Sys2Proof.Machine.execVlseg6e16ffV s
  | .vsseg6e16V => Sys2Proof.Machine.execVsseg6e16V s
  | .vlsseg6e16V => Sys2Proof.Machine.execVlsseg6e16V s
  | .vssseg6e16V => Sys2Proof.Machine.execVssseg6e16V s
  | .vluxseg6ei16V => Sys2Proof.Machine.execVluxseg6ei16V s
  | .vsuxseg6ei16V => Sys2Proof.Machine.execVsuxseg6ei16V s
  | .vloxseg6ei16V => Sys2Proof.Machine.execVloxseg6ei16V s
  | .vsoxseg6ei16V => Sys2Proof.Machine.execVsoxseg6ei16V s
  | .vlseg7e16V => Sys2Proof.Machine.execVlseg7e16V s
  | .vlseg7e16ffV => Sys2Proof.Machine.execVlseg7e16ffV s
  | .vsseg7e16V => Sys2Proof.Machine.execVsseg7e16V s
  | .vlsseg7e16V => Sys2Proof.Machine.execVlsseg7e16V s
  | .vssseg7e16V => Sys2Proof.Machine.execVssseg7e16V s
  | .vluxseg7ei16V => Sys2Proof.Machine.execVluxseg7ei16V s
  | .vsuxseg7ei16V => Sys2Proof.Machine.execVsuxseg7ei16V s
  | .vloxseg7ei16V => Sys2Proof.Machine.execVloxseg7ei16V s
  | .vsoxseg7ei16V => Sys2Proof.Machine.execVsoxseg7ei16V s
  | .vlseg8e16V => Sys2Proof.Machine.execVlseg8e16V s
  | .vlseg8e16ffV => Sys2Proof.Machine.execVlseg8e16ffV s
  | .vsseg8e16V => Sys2Proof.Machine.execVsseg8e16V s
  | .vlsseg8e16V => Sys2Proof.Machine.execVlsseg8e16V s
  | .vssseg8e16V => Sys2Proof.Machine.execVssseg8e16V s
  | .vluxseg8ei16V => Sys2Proof.Machine.execVluxseg8ei16V s
  | .vsuxseg8ei16V => Sys2Proof.Machine.execVsuxseg8ei16V s
  | .vloxseg8ei16V => Sys2Proof.Machine.execVloxseg8ei16V s
  | .vsoxseg8ei16V => Sys2Proof.Machine.execVsoxseg8ei16V s
  | .vl1re16V => Sys2Proof.Machine.execVl1re16V s
  | .vl2re16V => Sys2Proof.Machine.execVl2re16V s
  | .vl4re16V => Sys2Proof.Machine.execVl4re16V s
  | .vl8re16V => Sys2Proof.Machine.execVl8re16V s
  | .vle32V => Sys2Proof.Machine.execVle32V s
  | .vle32ffV => Sys2Proof.Machine.execVle32ffV s
  | .vse32V => Sys2Proof.Machine.execVse32V s
  | .vlse32V => Sys2Proof.Machine.execVlse32V s
  | .vsse32V => Sys2Proof.Machine.execVsse32V s
  | .vluxei32V => Sys2Proof.Machine.execVluxei32V s
  | .vsuxei32V => Sys2Proof.Machine.execVsuxei32V s
  | .vloxei32V => Sys2Proof.Machine.execVloxei32V s
  | .vsoxei32V => Sys2Proof.Machine.execVsoxei32V s
  | .vlseg2e32V => Sys2Proof.Machine.execVlseg2e32V s
  | .vlseg2e32ffV => Sys2Proof.Machine.execVlseg2e32ffV s
  | .vsseg2e32V => Sys2Proof.Machine.execVsseg2e32V s
  | .vlsseg2e32V => Sys2Proof.Machine.execVlsseg2e32V s
  | .vssseg2e32V => Sys2Proof.Machine.execVssseg2e32V s
  | .vluxseg2ei32V => Sys2Proof.Machine.execVluxseg2ei32V s
  | .vsuxseg2ei32V => Sys2Proof.Machine.execVsuxseg2ei32V s
  | .vloxseg2ei32V => Sys2Proof.Machine.execVloxseg2ei32V s
  | .vsoxseg2ei32V => Sys2Proof.Machine.execVsoxseg2ei32V s
  | .vlseg3e32V => Sys2Proof.Machine.execVlseg3e32V s
  | .vlseg3e32ffV => Sys2Proof.Machine.execVlseg3e32ffV s
  | .vsseg3e32V => Sys2Proof.Machine.execVsseg3e32V s
  | .vlsseg3e32V => Sys2Proof.Machine.execVlsseg3e32V s
  | .vssseg3e32V => Sys2Proof.Machine.execVssseg3e32V s
  | .vluxseg3ei32V => Sys2Proof.Machine.execVluxseg3ei32V s
  | .vsuxseg3ei32V => Sys2Proof.Machine.execVsuxseg3ei32V s
  | .vloxseg3ei32V => Sys2Proof.Machine.execVloxseg3ei32V s
  | .vsoxseg3ei32V => Sys2Proof.Machine.execVsoxseg3ei32V s
  | .vlseg4e32V => Sys2Proof.Machine.execVlseg4e32V s
  | .vlseg4e32ffV => Sys2Proof.Machine.execVlseg4e32ffV s
  | .vsseg4e32V => Sys2Proof.Machine.execVsseg4e32V s
  | .vlsseg4e32V => Sys2Proof.Machine.execVlsseg4e32V s
  | .vssseg4e32V => Sys2Proof.Machine.execVssseg4e32V s
  | .vluxseg4ei32V => Sys2Proof.Machine.execVluxseg4ei32V s
  | .vsuxseg4ei32V => Sys2Proof.Machine.execVsuxseg4ei32V s
  | .vloxseg4ei32V => Sys2Proof.Machine.execVloxseg4ei32V s
  | .vsoxseg4ei32V => Sys2Proof.Machine.execVsoxseg4ei32V s
  | .vlseg5e32V => Sys2Proof.Machine.execVlseg5e32V s
  | .vlseg5e32ffV => Sys2Proof.Machine.execVlseg5e32ffV s
  | .vsseg5e32V => Sys2Proof.Machine.execVsseg5e32V s
  | .vlsseg5e32V => Sys2Proof.Machine.execVlsseg5e32V s
  | .vssseg5e32V => Sys2Proof.Machine.execVssseg5e32V s
  | .vluxseg5ei32V => Sys2Proof.Machine.execVluxseg5ei32V s
  | .vsuxseg5ei32V => Sys2Proof.Machine.execVsuxseg5ei32V s
  | .vloxseg5ei32V => Sys2Proof.Machine.execVloxseg5ei32V s
  | .vsoxseg5ei32V => Sys2Proof.Machine.execVsoxseg5ei32V s
  | .vlseg6e32V => Sys2Proof.Machine.execVlseg6e32V s
  | .vlseg6e32ffV => Sys2Proof.Machine.execVlseg6e32ffV s
  | .vsseg6e32V => Sys2Proof.Machine.execVsseg6e32V s
  | .vlsseg6e32V => Sys2Proof.Machine.execVlsseg6e32V s
  | .vssseg6e32V => Sys2Proof.Machine.execVssseg6e32V s
  | .vluxseg6ei32V => Sys2Proof.Machine.execVluxseg6ei32V s
  | .vsuxseg6ei32V => Sys2Proof.Machine.execVsuxseg6ei32V s
  | .vloxseg6ei32V => Sys2Proof.Machine.execVloxseg6ei32V s
  | .vsoxseg6ei32V => Sys2Proof.Machine.execVsoxseg6ei32V s
  | .vlseg7e32V => Sys2Proof.Machine.execVlseg7e32V s
  | .vlseg7e32ffV => Sys2Proof.Machine.execVlseg7e32ffV s
  | .vsseg7e32V => Sys2Proof.Machine.execVsseg7e32V s
  | .vlsseg7e32V => Sys2Proof.Machine.execVlsseg7e32V s
  | .vssseg7e32V => Sys2Proof.Machine.execVssseg7e32V s
  | .vluxseg7ei32V => Sys2Proof.Machine.execVluxseg7ei32V s
  | .vsuxseg7ei32V => Sys2Proof.Machine.execVsuxseg7ei32V s
  | .vloxseg7ei32V => Sys2Proof.Machine.execVloxseg7ei32V s
  | .vsoxseg7ei32V => Sys2Proof.Machine.execVsoxseg7ei32V s
  | .vlseg8e32V => Sys2Proof.Machine.execVlseg8e32V s
  | .vlseg8e32ffV => Sys2Proof.Machine.execVlseg8e32ffV s
  | .vsseg8e32V => Sys2Proof.Machine.execVsseg8e32V s
  | .vlsseg8e32V => Sys2Proof.Machine.execVlsseg8e32V s
  | .vssseg8e32V => Sys2Proof.Machine.execVssseg8e32V s
  | .vluxseg8ei32V => Sys2Proof.Machine.execVluxseg8ei32V s
  | .vsuxseg8ei32V => Sys2Proof.Machine.execVsuxseg8ei32V s
  | .vloxseg8ei32V => Sys2Proof.Machine.execVloxseg8ei32V s
  | .vsoxseg8ei32V => Sys2Proof.Machine.execVsoxseg8ei32V s
  | .vl1re32V => Sys2Proof.Machine.execVl1re32V s
  | .vl2re32V => Sys2Proof.Machine.execVl2re32V s
  | .vl4re32V => Sys2Proof.Machine.execVl4re32V s
  | .vl8re32V => Sys2Proof.Machine.execVl8re32V s
  | .vle64V => Sys2Proof.Machine.execVle64V s
  | .vle64ffV => Sys2Proof.Machine.execVle64ffV s
  | .vse64V => Sys2Proof.Machine.execVse64V s
  | .vlse64V => Sys2Proof.Machine.execVlse64V s
  | .vsse64V => Sys2Proof.Machine.execVsse64V s
  | .vluxei64V => Sys2Proof.Machine.execVluxei64V s
  | .vsuxei64V => Sys2Proof.Machine.execVsuxei64V s
  | .vloxei64V => Sys2Proof.Machine.execVloxei64V s
  | .vsoxei64V => Sys2Proof.Machine.execVsoxei64V s
  | .vlseg2e64V => Sys2Proof.Machine.execVlseg2e64V s
  | .vlseg2e64ffV => Sys2Proof.Machine.execVlseg2e64ffV s
  | .vsseg2e64V => Sys2Proof.Machine.execVsseg2e64V s
  | .vlsseg2e64V => Sys2Proof.Machine.execVlsseg2e64V s
  | .vssseg2e64V => Sys2Proof.Machine.execVssseg2e64V s
  | .vluxseg2ei64V => Sys2Proof.Machine.execVluxseg2ei64V s
  | .vsuxseg2ei64V => Sys2Proof.Machine.execVsuxseg2ei64V s
  | .vloxseg2ei64V => Sys2Proof.Machine.execVloxseg2ei64V s
  | .vsoxseg2ei64V => Sys2Proof.Machine.execVsoxseg2ei64V s
  | .vlseg3e64V => Sys2Proof.Machine.execVlseg3e64V s
  | .vlseg3e64ffV => Sys2Proof.Machine.execVlseg3e64ffV s
  | .vsseg3e64V => Sys2Proof.Machine.execVsseg3e64V s
  | .vlsseg3e64V => Sys2Proof.Machine.execVlsseg3e64V s
  | .vssseg3e64V => Sys2Proof.Machine.execVssseg3e64V s
  | .vluxseg3ei64V => Sys2Proof.Machine.execVluxseg3ei64V s
  | .vsuxseg3ei64V => Sys2Proof.Machine.execVsuxseg3ei64V s
  | .vloxseg3ei64V => Sys2Proof.Machine.execVloxseg3ei64V s
  | .vsoxseg3ei64V => Sys2Proof.Machine.execVsoxseg3ei64V s
  | .vlseg4e64V => Sys2Proof.Machine.execVlseg4e64V s
  | .vlseg4e64ffV => Sys2Proof.Machine.execVlseg4e64ffV s
  | .vsseg4e64V => Sys2Proof.Machine.execVsseg4e64V s
  | .vlsseg4e64V => Sys2Proof.Machine.execVlsseg4e64V s
  | .vssseg4e64V => Sys2Proof.Machine.execVssseg4e64V s
  | .vluxseg4ei64V => Sys2Proof.Machine.execVluxseg4ei64V s
  | .vsuxseg4ei64V => Sys2Proof.Machine.execVsuxseg4ei64V s
  | .vloxseg4ei64V => Sys2Proof.Machine.execVloxseg4ei64V s
  | .vsoxseg4ei64V => Sys2Proof.Machine.execVsoxseg4ei64V s
  | .vlseg5e64V => Sys2Proof.Machine.execVlseg5e64V s
  | .vlseg5e64ffV => Sys2Proof.Machine.execVlseg5e64ffV s
  | .vsseg5e64V => Sys2Proof.Machine.execVsseg5e64V s
  | .vlsseg5e64V => Sys2Proof.Machine.execVlsseg5e64V s
  | .vssseg5e64V => Sys2Proof.Machine.execVssseg5e64V s
  | .vluxseg5ei64V => Sys2Proof.Machine.execVluxseg5ei64V s
  | .vsuxseg5ei64V => Sys2Proof.Machine.execVsuxseg5ei64V s
  | .vloxseg5ei64V => Sys2Proof.Machine.execVloxseg5ei64V s
  | .vsoxseg5ei64V => Sys2Proof.Machine.execVsoxseg5ei64V s
  | .vlseg6e64V => Sys2Proof.Machine.execVlseg6e64V s
  | .vlseg6e64ffV => Sys2Proof.Machine.execVlseg6e64ffV s
  | .vsseg6e64V => Sys2Proof.Machine.execVsseg6e64V s
  | .vlsseg6e64V => Sys2Proof.Machine.execVlsseg6e64V s
  | .vssseg6e64V => Sys2Proof.Machine.execVssseg6e64V s
  | .vluxseg6ei64V => Sys2Proof.Machine.execVluxseg6ei64V s
  | .vsuxseg6ei64V => Sys2Proof.Machine.execVsuxseg6ei64V s
  | .vloxseg6ei64V => Sys2Proof.Machine.execVloxseg6ei64V s
  | .vsoxseg6ei64V => Sys2Proof.Machine.execVsoxseg6ei64V s
  | .vlseg7e64V => Sys2Proof.Machine.execVlseg7e64V s
  | .vlseg7e64ffV => Sys2Proof.Machine.execVlseg7e64ffV s
  | .vsseg7e64V => Sys2Proof.Machine.execVsseg7e64V s
  | .vlsseg7e64V => Sys2Proof.Machine.execVlsseg7e64V s
  | .vssseg7e64V => Sys2Proof.Machine.execVssseg7e64V s
  | .vluxseg7ei64V => Sys2Proof.Machine.execVluxseg7ei64V s
  | .vsuxseg7ei64V => Sys2Proof.Machine.execVsuxseg7ei64V s
  | .vloxseg7ei64V => Sys2Proof.Machine.execVloxseg7ei64V s
  | .vsoxseg7ei64V => Sys2Proof.Machine.execVsoxseg7ei64V s
  | .vlseg8e64V => Sys2Proof.Machine.execVlseg8e64V s
  | .vlseg8e64ffV => Sys2Proof.Machine.execVlseg8e64ffV s
  | .vsseg8e64V => Sys2Proof.Machine.execVsseg8e64V s
  | .vlsseg8e64V => Sys2Proof.Machine.execVlsseg8e64V s
  | .vssseg8e64V => Sys2Proof.Machine.execVssseg8e64V s
  | .vluxseg8ei64V => Sys2Proof.Machine.execVluxseg8ei64V s
  | .vsuxseg8ei64V => Sys2Proof.Machine.execVsuxseg8ei64V s
  | .vloxseg8ei64V => Sys2Proof.Machine.execVloxseg8ei64V s
  | .vsoxseg8ei64V => Sys2Proof.Machine.execVsoxseg8ei64V s
  | .vl1re64V => Sys2Proof.Machine.execVl1re64V s
  | .vl2re64V => Sys2Proof.Machine.execVl2re64V s
  | .vl4re64V => Sys2Proof.Machine.execVl4re64V s
  | .vl8re64V => Sys2Proof.Machine.execVl8re64V s
  | .vs1rV => Sys2Proof.Machine.execVs1rV s
  | .vs2rV => Sys2Proof.Machine.execVs2rV s
  | .vs4rV => Sys2Proof.Machine.execVs4rV s
  | .vs8rV => Sys2Proof.Machine.execVs8rV s
  | .vlmV => Sys2Proof.Machine.execVlmV s
  | .vsmV => Sys2Proof.Machine.execVsmV s
  | .thAddsl => Sys2Proof.Machine.execThAddsl s
  | .thSrri => Sys2Proof.Machine.execThSrri s
  | .thSrriw => Sys2Proof.Machine.execThSrriw s
  | .thExt => Sys2Proof.Machine.execThExt s
  | .thExtu => Sys2Proof.Machine.execThExtu s
  | .thFf0 => Sys2Proof.Machine.execThFf0 s
  | .thFf1 => Sys2Proof.Machine.execThFf1 s
  | .thRev => Sys2Proof.Machine.execThRev s
  | .thRevw => Sys2Proof.Machine.execThRevw s
  | .thTstnbz => Sys2Proof.Machine.execThTstnbz s
  | .thTst => Sys2Proof.Machine.execThTst s
  | .thMveqz => Sys2Proof.Machine.execThMveqz s
  | .thMvnez => Sys2Proof.Machine.execThMvnez s
  | .vtMaskc => Sys2Proof.Machine.execVtMaskc s
  | .vtMaskcn => Sys2Proof.Machine.execVtMaskcn s
  | .nop => Sys2Proof.Machine.execNop s
  | .mv => Sys2Proof.Machine.execMv s
  | .li => Sys2Proof.Machine.execLi s
  | .sextW => Sys2Proof.Machine.execSextW s
  | .not => Sys2Proof.Machine.execNot s
  | .seqz => Sys2Proof.Machine.execSeqz s
  | .snez => Sys2Proof.Machine.execSnez s
  | .sltz => Sys2Proof.Machine.execSltz s
  | .sgtz => Sys2Proof.Machine.execSgtz s
  | .neg => Sys2Proof.Machine.execNeg s
  | .negw => Sys2Proof.Machine.execNegw s
  | .beqz => Sys2Proof.Machine.execBeqz s
  | .bnez => Sys2Proof.Machine.execBnez s
  | .bltz => Sys2Proof.Machine.execBltz s
  | .bgtz => Sys2Proof.Machine.execBgtz s
  | .blez => Sys2Proof.Machine.execBlez s
  | .bgez => Sys2Proof.Machine.execBgez s
  | .j => Sys2Proof.Machine.execJ s
  | .jalP => Sys2Proof.Machine.execJalP s
  | .ret => Sys2Proof.Machine.execRet s
  | .jr => Sys2Proof.Machine.execJr s
  | .jalrP => Sys2Proof.Machine.execJalrP s
  | .fsrm => Sys2Proof.Machine.execFsrm s
  | .fsflags => Sys2Proof.Machine.execFsflags s
  | .fscsr => Sys2Proof.Machine.execFscsr s
  | .csrw => Sys2Proof.Machine.execCsrw s
  | .rdcycle => Sys2Proof.Machine.execRdcycle s
  | .rdtime => Sys2Proof.Machine.execRdtime s
  | .rdinstret => Sys2Proof.Machine.execRdinstret s
  | .rdcycleh => Sys2Proof.Machine.execRdcycleh s
  | .rdtimeh => Sys2Proof.Machine.execRdtimeh s
  | .rdinstreth => Sys2Proof.Machine.execRdinstreth s
  | .frcsr => Sys2Proof.Machine.execFrcsr s
  | .frrm => Sys2Proof.Machine.execFrrm s
  | .frflags => Sys2Proof.Machine.execFrflags s
  | .csrr => Sys2Proof.Machine.execCsrr s
  | .csrs => Sys2Proof.Machine.execCsrs s
  | .csrc => Sys2Proof.Machine.execCsrc s
  | .fsrmi => Sys2Proof.Machine.execFsrmi s
  | .fsflagsi => Sys2Proof.Machine.execFsflagsi s
  | .csrwi => Sys2Proof.Machine.execCsrwi s
  | .csrsi => Sys2Proof.Machine.execCsrsi s
  | .csrci => Sys2Proof.Machine.execCsrci s
  | .fmvS => Sys2Proof.Machine.execFmvS s
  | .fnegS => Sys2Proof.Machine.execFnegS s
  | .fabsS => Sys2Proof.Machine.execFabsS s
  | .fmvD => Sys2Proof.Machine.execFmvD s
  | .fnegD => Sys2Proof.Machine.execFnegD s
  | .fabsD => Sys2Proof.Machine.execFabsD s
  | .fmvH => Sys2Proof.Machine.execFmvH s
  | .fnegH => Sys2Proof.Machine.execFnegH s
  | .fabsH => Sys2Proof.Machine.execFabsH s
  | .fmvQ => Sys2Proof.Machine.execFmvQ s
  | .fnegQ => Sys2Proof.Machine.execFnegQ s
  | .fabsQ => Sys2Proof.Machine.execFabsQ s
  | .zextW => Sys2Proof.Machine.execZextW s
  | .vnotV => Sys2Proof.Machine.execVnotV s
  | .vnegV => Sys2Proof.Machine.execVnegV s
  | .vwcvtXXV => Sys2Proof.Machine.execVwcvtXXV s
  | .vwcvtuXXV => Sys2Proof.Machine.execVwcvtuXXV s
  | .vncvtXXW => Sys2Proof.Machine.execVncvtXXW s
  | .vmmvM => Sys2Proof.Machine.execVmmvM s
  | .vmnotM => Sys2Proof.Machine.execVmnotM s
  | .vmclrM => Sys2Proof.Machine.execVmclrM s
  | .vmsetM => Sys2Proof.Machine.execVmsetM s
  | .vfnegV => Sys2Proof.Machine.execVfnegV s
  | .vfabsV => Sys2Proof.Machine.execVfabsV s

end Sys2Proof.Machine
end

