-- ==== Sys2Proof/Machine/Step.lean ====
section
/-! DEFINITION. Machine/Step.lean: one step: a decode of the window (40_pipeline.md R200), then the caller's advance in its
stream (20_memory.md R65, 60_exceptions.md R9018). -/

namespace Sys2Proof.Machine

/-- What the block outputs for what the decoder found: the meaning of the opcode, an OPEN row's record (R10), or the illegal
record (R64, R205). -/
def execDecoded (d : Decoded) (s : State) : Result :=
  match d with
  | .instr i => exec i s
  | .openRow v => emitOpen v s
  | .rejected _ => emitIllegal s

/-- The caller's advance after a decode that answers a next state (R9018). -/
def thenAdvance (r : Result) : Result :=
  match r with
  | .next t => .next t.advance
  | .fault f => .fault f
  | .refused why => .refused why

/-- One step: the decoder reads the window, the outputs are driven, and the caller moves past the instruction. -/
def step (s : State) : Host.Outcome State Fault Refusal :=
  thenAdvance (execDecoded (decode s.win s.xlen s.cfg s.vendorRows) s)

/-- The state with a table word stored where the next step's window begins, under an XLEN and a configuration at which the
decode trees hold it (assumption logs 5 and 6), so that the next step decodes it. -/
def State.withFetchWord (s : State) (nbits w : Nat) : State :=
  let win := tableWindow nbits w
  { s with
    stream := [win.u0, win.u1, win.u2, win.u3] ++ s.stream.drop 4
    xlen := (presentation nbits w).1
    cfg := (presentation nbits w).2
    vendorRows := [] }

end Sys2Proof.Machine
end

