-- ==== Sys2Proof/Machine/Pipeline.lean ====
section
/-! DEFINITION. Machine/Pipeline.lean: the block's one operation, `decode(win, XLEN, cfg) -> (len, rec)`, written down as
40_pipeline.md R200 writes it, beside the step that goes by way of an opcode. A statement says that they agree. -/

namespace Sys2Proof.Machine

/-- The block as one function (R200), with `VENDOR_ROWS` as its last argument (R10). -/
def decodeBlock (win : Window) (x : Xlen) (cfg : Cfg) (vr : List VendorRow) : Nat × DecodedRecord :=
  let len := fetchLen win.u0
  if len = 0 then (0, { len := 0 })
  else
    let inst := instWord win len
    match dispatch inst len x cfg vr with
    | none => (len, { len := len })
    | some (.openRow c v) =>
      (len, { materialize v.codec inst x with len := len, catalog := c, op := .openVendor v.id, codec := v.codec })
    | some (.row c r) =>
      let r1 : DecodedRecord :=
        { materialize r.op.codec inst x with len := len, catalog := c, op := .std r.op, codec := r.op.codec }
      let r2 := expand x r1
      if r2.op = .illegal then (len, r2) else (len, lift r2)

end Sys2Proof.Machine
end

