-- ==== Sys2Proof/Safety.lean ====
section
/-! DEFINITION. Safety.lean: what the spec promises of every output, and the terms the statements are written in. -/

namespace Sys2Proof.Machine

/-- A length the block can output (R33). -/
def legalLen (n : Nat) : Bool := n == 0 || n == 2 || n == 4 || n == 6 || n == 8

/-- What the spec promises of every record: `codec` and `catalog` are those of its opcode's descriptor (R40, R214), the
fields the codec does not write are 0 (R207), an illegal record holds its defaults (R41), and an OPEN row's opcode is of
the xthead catalog (R214). -/
def DecodedRecord.consistent (r : DecodedRecord) : Bool :=
  match r.op with
  | .illegal => decide (r = illegalRecord r.len)
  | .std i => r.codec == i.codec && r.catalog == i.catalog && decide (r.codec.keep r.toOperands = r.toOperands)
  | .openVendor _ => r.catalog == .xthead && decide (r.codec.keep r.toOperands = r.toOperands)

/-- The invariant of the outputs: a legal length (R33), copied into the record (R36), and a consistent record. -/
def State.Inv (s : State) : Bool := legalLen s.len && s.record.len == s.len && s.record.consistent

/-- The meaning of `i` at `s` answers a next state: the outputs hold the record `r` and nothing else changes. -/
def ExecGives (i : Instr) (s : State) (r : DecodedRecord) : Prop :=
  exec i s = .next { s with len := r.len, record := r }

/-- The step at `s` answers a next state: the outputs hold the record `r`, the caller has moved past the instruction's units
(R9018; `stream` and `pos` are the model's fields, assumption log 2, and stay at length 0, log 7), and nothing else changes
(log 18). -/
def StepGives (s : State) (r : DecodedRecord) : Prop :=
  step s = .next { s with stream := s.stream.drop (r.len / 2), pos := s.pos + r.len / 2, len := r.len, record := r }

/-- The caller's next unit is the 16-bit word `w`. -/
def State.presents16 (s : State) (w : CodeUnit) : Prop := s.unitAt 0 = w

/-- The caller's next two units are the 32-bit word `w` (R61). -/
def State.presents32 (s : State) (w : Inst) : Prop :=
  s.unitAt 0 = w.extractLsb' 0 16 ∧ s.unitAt 1 = w.extractLsb' 16 16

/-- The dispatcher entry's tree holds the row `h`, and the row matches the word the state presents (R201, R203). -/
def EntryHasRow (e : DispatchEntry) (s : State) (h : Hit) : Prop :=
  match h with
  | .row c r => c = e.catalog ∧ r ∈ e.tree.rows ∧ r.matchesWord s.inst s.instLen s.xlen s.cfg = true
  | .openRow c v =>
    c = e.catalog ∧ e.tree = .vendorRows v.tree ∧ v ∈ s.vendorRows ∧
      v.matchesWord s.inst s.instLen s.xlen = true

/-- Some enabled entry's tree holds the matching row `h` (R202). -/
def State.Candidate (s : State) (h : Hit) : Prop :=
  ∃ e ∈ dispatchTable, flagHolds s.cfg e.guard = true ∧ EntryHasRow e s h

/-- The row `r` of the base tree matches the word the state presents (R203). -/
def State.MatchesBase (s : State) (r : Row) : Prop :=
  r ∈ baseTree ∧ r.matchesWord s.inst s.instLen s.xlen s.cfg = true

/-- The nonzero-immediate check fails for an opcode at `s`: its flag is set, XLEN has a target, and the materialized immediate
is 0 (R209). -/
def NonzeroImmFails (i : Instr) (s : State) : Prop :=
  i.descriptor.nonzeroImm = true ∧ (i.target s.xlen).isSome = true ∧ (materialize i.codec s.inst s.xlen).imm = 0

end Sys2Proof.Machine
end

