-- ==== Sys2Proof/WellFormed.lean ====
section
/-! DEFINITION. WellFormed.lean: the opcodes and operand fields that some word gives at an XLEN and a configuration. -/

namespace Sys2Proof

/-- The opcode (a pseudo-opcode's canonical opcode) has a row at this XLEN, the row's flag is 1 and so is the guard of its
tree (R114, R116, R201). -/
def presentAt (x : Xlen) (cfg : Cfg) (i : Instr) : Bool :=
  dispatchTable.any (fun e => flagHolds cfg e.guard &&
    e.tree.rows.any (fun r => r.op == i.canonical && r.xlens.contains x && flagHolds cfg r.flag))

/-- The Zcmp and Zcmt areas carved out of `c.fsdsp` when their flags are 1, in that row's operand fields (R116). -/
def outsideCarveFsdsp (cfg : Cfg) (o : Operands) : Bool :=
  !(cfg.zcmp && slice o.imm 5 4 == 0b11 && slice o.imm 7 7 == 0)
    && !(cfg.zcmp && slice o.imm 5 3 == 0b011 && slice o.rs2 3 3 == 1)
    && !(cfg.zcmt && slice o.imm 5 3 == 0)

/-- The same areas in the operand fields of `c.sqsp` (R116). -/
def outsideCarveSqsp (cfg : Cfg) (o : Operands) : Bool :=
  !(cfg.zcmp && slice o.imm 5 4 == 0b11 && slice o.imm 7 7 == 0)
    && !(cfg.zcmp && slice o.imm 5 4 == 0b01 && slice o.imm 9 9 == 1 && slice o.rs2 3 3 == 1)
    && !(cfg.zcmt && slice o.imm 5 4 == 0 && slice o.imm 9 9 == 0)

/-- The operand values that the row's exclusions (R115, R120) or its fixed bits leave; of every other opcode, all. -/
def rowAdmits (x : Xlen) (cfg : Cfg) (i : Instr) (o : Operands) : Bool :=
  match i with
  | .pack => x != .x32 || o.rs2 != 0
  | .packw => o.rs2 != 0
  | .aes64ks1i => decide (o.rnum.toNat ≤ 10)
  | .cAddi => o.rd != 0 || o.imm != 0
  | .cAddiw | .cLqsp | .cLwsp | .cLdsp => o.rd != 0
  | .cLui => o.rd != 2
  | .cSrli | .cSrai | .cSlli => x != .x32 || decide (o.imm.toNat < 32)
  | .cJr | .cMv | .cJalr => o.rs1 != 0
  | .cAdd => o.rs2 != 0
  | .cFsdsp => outsideCarveFsdsp cfg o
  | .cSqsp => outsideCarveSqsp cfg o
  | .cmPush | .cmPop | .cmPopretz | .cmPopret => decide (4 ≤ o.rlist.toNat)
  | .cmMvsa01 => o.rs1 != o.rs2
  | .cmJt => decide (o.imm.toNat < 32)
  | .cmJalt => decide (32 ≤ o.imm.toNat)
  -- rows whose pattern fixes a field that their codec reads
  | .vadcVvm | .vadcVxm | .vadcVim | .vmadcVvm | .vmadcVxm | .vmadcVim | .vsbcVvm | .vsbcVxm | .vmsbcVvm |
  .vmsbcVxm | .vmergeVvm | .vmergeVxm | .vmergeVim | .vfmergeVfm =>
    o.vm == 0
  | .vmadcVv | .vmadcVx | .vmadcVi | .vmsbcVv | .vmsbcVx | .vmv1rV | .vmv2rV | .vmv4rV | .vmv8rV | .vmvXS |
  .vcompressVm | .vmandnMm | .vmandMm | .vmorMm | .vmxorMm | .vmornMm | .vmnandMm | .vmnorMm | .vmxnorMm |
  .vfmvFS | .vl1re8V | .vl2re8V | .vl4re8V | .vl8re8V | .vl1re16V | .vl2re16V | .vl4re16V | .vl8re16V |
  .vl1re32V | .vl2re32V | .vl4re32V | .vl8re32V | .vl1re64V | .vl2re64V | .vl4re64V | .vl8re64V | .vs1rV |
  .vs2rV | .vs4rV | .vs8rV | .vlmV | .vsmV =>
    o.vm == 1
  | .vmvVV | .vmvVX | .vmvVI | .vmvSX | .vfmvSF | .vfmvVF =>
    o.rs2 == 0 && o.vm == 1
  | _ => true

/-- An opcode with operand fields is well-formed: its row exists here, the fields its codec does not write are 0, the
others hold values the codec and the row can give, and the lifter names it so (R114, R207, R115, R211). -/
def WellFormed (x : Xlen) (cfg : Cfg) (i : Instr) (o : Operands) : Bool :=
  presentAt x cfg i && decide (i.codec.keep o = o) && i.codec.admits x o && rowAdmits x cfg i.canonical o
    && decide (i.canonical.lifted o = i)

end Sys2Proof
end

