-- ==== Sys2Proof/Certificates/Slice0/Obligations.lean ====
section
/-! DEFINITION. Certificates/Slice0/Obligations.lean: the statements for the provers. Each follows the numbered rules its
docstring names; OBLIGATIONS.json says the same in words. -/

section
open Sys2Proof Sys2Proof.Machine

/-- A step is exec of the decoded opcode, then the caller's advance (R200, R9018). -/
def Obligations.StepRunsTheDecodedOpcode : Prop :=
  ∀ (s : State) (i : Instr), decode s.win s.xlen s.cfg s.vendorRows = .instr i →
    ∃ t, exec i s = .next t ∧
      step s = .next { t with stream := t.stream.drop (t.len / 2), pos := t.pos + t.len / 2 }

/-- The length classes of R62, as arithmetic on the first unit; nothing else of the state bears on the length. -/
def Obligations.FetchLengthOfEveryUnit : Prop :=
  ∀ s : State, ∃ t, step s = .next t ∧
    let n := (s.unitAt 0).toNat
    t.len = if n % 4 ≠ 3 then 2 else if n / 4 % 8 ≠ 7 then 4 else if n % 64 = 31 then 6
      else if n % 128 = 63 then 8 else 0

/-- The worked cases of R63. -/
def Obligations.WorkedLengthClasses : Prop :=
  fetchLen 0x0000 = 2 ∧ fetchLen 0x0001 = 2 ∧ fetchLen 0x0002 = 2 ∧
  fetchLen 0x0003 = 4 ∧ fetchLen 0x0013 = 4 ∧ fetchLen 0x0017 = 4 ∧
  fetchLen 0x001f = 6 ∧ fetchLen 0x003f = 8 ∧ fetchLen 0x007f = 0 ∧
  ∀ high : BitVec 9, fetchLen (high ++ 0b1111111#7) = 0

/-- Byte and unit order (R61). -/
def Obligations.LittleEndianWords : Prop :=
  (∀ first second : Byte, unitOfBytes first second = second ++ first) ∧
  (∀ (s : State) (k : Nat), k < 4 → s.win.bits.extractLsb' (16 * k) 16 = s.unitAt k) ∧
  (∀ (s : State) (b0 b1 : Byte) (rest : List Byte), s.stream = unitsOfBytes (b0 :: b1 :: rest) → s.instLen = 2 →
    s.inst = 0#16 ++ b1 ++ b0) ∧
  (∀ (s : State) (b0 b1 b2 b3 : Byte) (rest : List Byte), s.stream = unitsOfBytes (b0 :: b1 :: b2 :: b3 :: rest) →
    s.instLen = 4 → s.inst = b3 ++ b2 ++ b1 ++ b0) ∧
  (∀ s : State, s.stream = unitsOfBytes [0x13, 0, 0, 0] → s.inst = 0x00000013) ∧
  (∀ s : State, s.stream = unitsOfBytes [0x82, 0x80] → s.inst = 0x8082)

/-- The outputs depend on the instruction's own units, XLEN, cfg and VENDOR_ROWS alone (R30, R46, R200). -/
def Obligations.LaterUnitsDoNotMatter : Prop :=
  ∀ s s' t : State, s'.xlen = s.xlen → s'.cfg = s.cfg → s'.vendorRows = s.vendorRows →
    s'.unitAt 0 = s.unitAt 0 → (fetchLen (s.unitAt 0) = 4 → s'.unitAt 1 = s.unitAt 1) →
    step s = .next t → ∃ t', step s' = .next t' ∧ t'.len = t.len ∧ t'.record = t.record

/-- Totality (R213): exactly two outcomes, never an exception or fault (R9000). -/
def Obligations.EveryDecodeAnswers : Prop :=
  ∀ s : State, ∃ t, step s = .next t ∧ t.len ∈ [0, 2, 4, 6, 8] ∧ t.record.len = t.len ∧
    (t.record.op = .illegal ∨ (∃ i, t.record.op = .std i ∧ i.catalog = t.record.catalog) ∨
      ∃ v ∈ s.vendorRows, t.record.op = .openVendor v.id ∧ t.record.catalog = .xthead)

/-- Outcome selection (R9001). -/
def Obligations.OutcomeSelection : Prop :=
  ∀ s t : State, step s = .next t →
    (t.len = 0 ↔ (s.unitAt 0).extractLsb' 0 7 = 0b1111111#7) ∧
    (t.len ≠ 0 → (t.record.op = .illegal ↔
      t.len = 6 ∨ t.len = 8 ∨ (∀ h, ¬ s.Candidate h) ∨ ∃ r, s.MatchesBase r ∧ NonzeroImmFails r.op s))

/-- The invariant of R41. -/
def Obligations.IllegalCarriesNoOperands : Prop :=
  ∀ s t : State, step s = .next t → t.record.op = .illegal →
    t.record.catalog = .base ∧ t.record.codec = .none ∧ t.record.toOperands = {} ∧
    t.record = { len := t.record.len }

/-- The illegal default (R205), of a length-0 word too, where no tree is run (R64, R65, R9018): that the stream and
the position then stay is the model's choice (assumption log 7), as the two fields are (assumption log 2). -/
def Obligations.UnmatchedWordIsIllegal : Prop :=
  ∀ s : State, (∀ h, ¬ s.Candidate h) →
    StepGives s { len := fetchLen (s.unitAt 0), catalog := .base, op := .illegal, codec := .none }

/-- The rows do not overlap (R204), within a tree and between the trees given. -/
def Obligations.NoTwoRowsMatch : Prop :=
  ∀ (r₁ r₂ : Row) (w : Inst) (len : Nat) (x : Xlen) (cfg : Cfg), r₁ ∈ allRows → r₂ ∈ allRows →
    r₁.matchesWord w len x cfg = true → r₂.matchesWord w len x cfg = true → r₁ = r₂

/-- The dispatch algorithm over the table's order (R201 to R203). -/
def Obligations.FirstEnabledEntryWins : Prop :=
  ∀ (s : State) (k : Nat) (e : DispatchEntry) (r : Row), dispatchTable[k]? = some e →
    flagHolds s.cfg e.guard = true → r ∈ e.tree.rows → r.matchesWord s.inst s.instLen s.xlen s.cfg = true →
    (∀ (j : Nat) (e' : DispatchEntry), j < k → dispatchTable[j]? = some e' → flagHolds s.cfg e'.guard = true →
      ∀ h, ¬ EntryHasRow e' s h) →
    dispatch s.inst s.instLen s.xlen s.cfg s.vendorRows = some (.row e.catalog r)

/-- What the catalog of the final record says (R202, R214). -/
def Obligations.VendorOnlyAfterBase : Prop :=
  ∀ s t : State, step s = .next t → t.record.catalog ≠ .base →
    (∀ r, ¬ s.MatchesBase r) ∧
    (t.record.catalog = .xthead →
      ∃ f ∈ [Flag.xtheadba, .xtheadbb, .xtheadbs, .xtheadcmo, .xtheadcondmov, .xtheadfmemidx, .xtheadfmv, .xtheadmac,
        .xtheadmemidx, .xtheadmempair, .xtheadsync], s.cfg.get f = true) ∧
    (t.record.catalog = .xventana → s.cfg.xventanacondops = true)

/-- The standard extensions are not gated (R11, R116). -/
def Obligations.BaseRowsIgnoreOtherFlags : Prop :=
  ∀ r ∈ baseTree, (∀ (w : Inst) (len : Nat) (x : Xlen) (c₁ c₂ : Cfg), c₁.zcmp = c₂.zcmp → c₁.zcmt = c₂.zcmt →
      r.matchesWord w len x c₁ = r.matchesWord w len x c₂) ∧
    (r.op ∉ [Instr.cmPush, .cmPop, .cmPopretz, .cmPopret, .cmMvsa01, .cmMva01s, .cmJt, .cmJalt] → r.flag = none)

/-- fint only affects rendering (R9). -/
def Obligations.FintHasNoEffect : Prop :=
  ∀ (s t : State) (b : Bool), step s = .next t →
    step { s with cfg := { s.cfg with fint := b } } = .next { t with cfg := { s.cfg with fint := b } }

/-- The default of VENDOR_ROWS yields illegal for every word (R10). -/
def Obligations.OpenTreesAreEmptyByDefault : Prop :=
  ∀ (s t : State) (b₁ b₂ b₃ b₄ b₅ b₆ b₇ : Bool), s.vendorRows = [] → step s = .next t →
    let cfg := { s.cfg with xtheadcmo := b₁, xtheadfmemidx := b₂, xtheadfmv := b₃, xtheadmac := b₄, xtheadmemidx := b₅,
                            xtheadmempair := b₆, xtheadsync := b₇ }
    step { s with cfg := cfg } = .next { t with cfg := cfg }

/-- VENDOR_ROWS is an argument (R10); its rows decode like any other. That the first matching row of a list wins is
the model's choice (assumption log 8). -/
def Obligations.OpenRowDecodes : Prop :=
  ∀ (s : State) (k : Nat) (e : DispatchEntry) (pre post : List VendorRow) (v : VendorRow),
    dispatchTable[k]? = some e → e.tree = .vendorRows v.tree → s.cfg.get v.tree = true →
    s.vendorRows = pre ++ v :: post → (∀ u ∈ pre, u.tree = v.tree → u.matchesWord s.inst s.instLen s.xlen = false) →
    v.matchesWord s.inst s.instLen s.xlen = true →
    (∀ (j : Nat) (e' : DispatchEntry), j < k → dispatchTable[j]? = some e' → flagHolds s.cfg e'.guard = true →
      ∀ h, ¬ EntryHasRow e' s h) →
    StepGives s { materialize v.codec s.inst s.xlen with
      len := 4, catalog := .xthead, op := .openVendor v.id, codec := v.codec }

/-- No opcode, of all 1172 constructors of Instr, faults or refuses (R9000); the block only drives its outputs (R46).
-/
def Obligations.EveryOpcodeCompletes : Prop :=
  ∀ (i : Instr) (s : State), ∃ t, exec i s = .next t ∧
    t.stream = s.stream ∧ t.pos = s.pos ∧ t.xlen = s.xlen ∧ t.cfg = s.cfg ∧ t.vendorRows = s.vendorRows ∧
    t.len = fetchLen (s.unitAt 0) ∧ t.record.len = t.len

/-- The decode result of each 32-bit opcode (R203, R206, R211); every other field of the state is unchanged. -/
def Obligations.FourByteOpcodesGiveTheirRecord : Prop :=
  ∀ (i : Instr) (s : State), i.length = 4 →
    ExecGives i s { materialize i.codec s.inst s.xlen with
      len := fetchLen (s.unitAt 0), catalog := i.catalog, codec := i.codec,
      op := .std (i.lifted (materialize i.codec s.inst s.xlen)) }

/-- The decode result of each 16-bit opcode (R206, R208 to R211); every other field of the state is unchanged. -/
def Obligations.TwoByteOpcodesGiveTheirRecord : Prop :=
  (∀ i : Instr, i.length = 2 ∨ i.length = 4) ∧
  ∀ (i : Instr) (s : State), i.length = 2 →
    let o := materialize i.codec s.inst s.xlen
    let n := fetchLen (s.unitAt 0)
    match i.target s.xlen with
    | none => ExecGives i s { o with len := n, catalog := .base, op := .std i, codec := i.codec }
    | some t =>
      (i.descriptor.nonzeroImm = true ∧ o.imm = 0 → ExecGives i s { len := n }) ∧
      (¬ (i.descriptor.nonzeroImm = true ∧ o.imm = 0) →
        ExecGives i s { o with len := n, catalog := .base, op := .std (t.lifted o), codec := t.codec })

/-- Idempotence of the lifter (R212). -/
def Obligations.LiftIsIdempotent : Prop :=
  (∀ r : DecodedRecord, lift (lift r) = lift r) ∧
  ∀ i : Instr, ∀ p ∈ i.descriptor.pseudo, p.op.descriptor.pseudo = []

/-- The lifter (R211). -/
def Obligations.LiftTakesTheFirstRule : Prop :=
  (∀ (r : DecodedRecord) (i : Instr) (pre post : List PseudoRule) (p : PseudoRule), r.catalog = .base →
    r.op = .std i → i.descriptor.pseudo = pre ++ p :: post → (∀ q ∈ pre, q.holds r.toOperands = false) →
    p.holds r.toOperands = true → lift r = { r with op := .std p.op, codec := i.codec }) ∧
  (∀ (r : DecodedRecord) (i : Instr), r.op = .std i → (∀ q ∈ i.descriptor.pseudo, q.holds r.toOperands = false) →
    lift r = r) ∧
  (∀ r : DecodedRecord, r.catalog ≠ .base ∨ r.op = .illegal → lift r = r) ∧
  ∀ r : DecodedRecord, (lift r).toOperands = r.toOperands

/-- The nonzero-immediate check (R209, R210) and the caller's advance (R65, R9018). The stream and the position are
the model's fields (assumption log 2), and XLEN and the OPEN rows unchanged are its reading (assumption log 18). -/
def Obligations.NonzeroImmediateCheck : Prop :=
  (∀ i : Instr, i.descriptor.nonzeroImm = true ↔
    i ∈ [Instr.cAddi4spn, .cAddi, .cAddi16sp, .cLui, .cSrli, .cSrai, .cSlli]) ∧
  ∀ (s : State) (r : Row), s.MatchesBase r → r.op.descriptor.nonzeroImm = true → (r.op.target s.xlen).isSome = true →
    (materialize r.op.codec s.inst s.xlen).imm = 0 → StepGives s { len := 2 }

/-- From the tree through the expander and the lifter (R203, R206, R208, R211). Among the rows are those of R4032 to
R4038 at XLEN 32 (assumption log 19). -/
def Obligations.CompressedWordDecodes : Prop :=
  ∀ (s : State) (r : Row), s.MatchesBase r → r.nbits = 16 → ¬ NonzeroImmFails r.op s →
    let o := materialize r.op.codec s.inst s.xlen
    match r.op.target s.xlen with
    | none => StepGives s { o with len := 2, catalog := .base, op := .std r.op, codec := r.op.codec }
    | some t => StepGives s { o with len := 2, catalog := .base, op := .std (t.lifted o), codec := t.codec }

/-- From the tree through the lifter (R203, R206, R211). -/
def Obligations.BaseWordDecodes : Prop :=
  ∀ (s : State) (r : Row), s.MatchesBase r → r.nbits = 32 →
    let o := materialize r.op.codec s.inst s.xlen
    StepGives s { o with len := 4, catalog := .base, op := .std (r.op.lifted o), codec := r.op.codec }

/-- The given vendor trees (R201 to R203; R208 and R211 leave their records alone). -/
def Obligations.VendorWordDecodes : Prop :=
  ∀ (s : State) (e : DispatchEntry) (f : Flag) (r : Row), s.vendorRows = [] → e ∈ dispatchTable → e.guard = some f →
    s.cfg.get f = true → r ∈ e.tree.rows → r.matchesWord s.inst s.instLen s.xlen s.cfg = true →
    StepGives s { materialize r.op.codec s.inst s.xlen with
      len := 4, catalog := e.catalog, op := .std r.op, codec := r.op.codec }

/-- The invariant State.Inv of the outputs (R33, R36, R40, R41, R207, R214), from every state that meets it. -/
def Obligations.StepKeepsConsistency : Prop :=
  ∀ s t : State, s.Inv = true → step s = .next t → t.Inv = true

/-- The reset values of the outputs (R9101; assumption log 4). -/
def Obligations.ResetIsConsistent : Prop :=
  State.reset.Inv = true ∧ State.reset.len = 0 ∧
  State.reset.record =
    { len := 0, catalog := .base, op := .illegal, codec := .none, rd := 0, rs1 := 0, rs2 := 0, rs3 := 0, imm := 0,
      imm1 := 0, rm := 0, pred := 0, succ := 0, aq := 0, rl := 0, vm := 0, vzimm := 0, csr := 0, rlist := 0, bs := 0,
      rnum := 0 }

/-- The machine, which runs one meaning per opcode, refines the one function of R200. -/
def Obligations.StepRefinesThePipeline : Prop :=
  ∀ s : State, ∃ t, step s = .next t ∧ (t.len, t.record) = decodeBlock s.win s.xlen s.cfg s.vendorRows

/-- Decode and encode agree, for every opcode of every family, named as the decoder names it (assumption log 9), with
the rows of R4032 to R4038 at XLEN 32 (assumption log 19). -/
def Obligations.DecodeOfEncode : Prop :=
  ∀ (s : State) (i : Instr) (o : Operands) (rest : List CodeUnit), WellFormed s.xlen s.cfg i o = true →
    s.stream = encode s.xlen i o ++ rest → (i.catalog = .base ∨ s.vendorRows = []) →
    decode s.win s.xlen s.cfg s.vendorRows = .instr i ∧ operandsOf s.xlen i s.inst = o

/-- The decoder gives no opcode and no operand value outside the encodings (R114 to R116, R120). That it names a
32-bit word by its lifted opcode is the model's choice (assumption log 9), and so is that the rows of R4032 to R4038
stand at XLEN 32 against the last line of R120 (assumption log 19). -/
def Obligations.DecodedIsWellFormed : Prop :=
  ∀ (s : State) (i : Instr), decode s.win s.xlen s.cfg s.vendorRows = .instr i →
    WellFormed s.xlen s.cfg i (operandsOf s.xlen i s.inst) = true

/-- The bit orders of the immediates and fields, in both directions (R101 to R107). -/
def Obligations.CodecsInvert : Prop :=
  ∀ (c : Codec) (x : Xlen) (o : Operands), c.keep o = o → c.admits x o = true → materialize c (pack c x o) x = o

/-- The caller's contract (R65, R9018): an illegal op with len > 0 does not stop the stream. cfg is only read (R32).
The stream and position as fields (assumption log 2), their staying at length 0 (assumption log 7), and XLEN and the
OPEN rows unchanged (assumption log 18) are the model's. -/
def Obligations.StepMovesByLength : Prop :=
  ∀ s t : State, step s = .next t →
    t.stream = s.stream.drop (t.len / 2) ∧ t.pos = s.pos + t.len / 2 ∧
    t.xlen = s.xlen ∧ t.cfg = s.cfg ∧ t.vendorRows = s.vendorRows

/-- An unrecognized length prefix: the caller cannot proceed past it (R65; assumption log 7). -/
def Obligations.LengthZeroStops : Prop :=
  ∀ s : State, (s.unitAt 0).extractLsb' 0 7 = 0b1111111#7 →
    step s = .next { s with len := 0, record := {} } ∧
    step { s with len := 0, record := {} } = .next { s with len := 0, record := {} }

/-- The record is created fresh for each decode (R49). -/
def Obligations.OutputsForgetTheLastDecode : Prop :=
  ∀ (s t : State) (n : Nat) (r : DecodedRecord), step s = .next t →
    step { s with len := n, record := r } = .next t ∧ t.record = (decodeBlock s.win s.xlen s.cfg s.vendorRows).2

/-- The immediates as R106 to R109 describe them and their codecs extract them, for every word. The rows are a codec,
its least and greatest immediate and its scale; shamt_l and shamt_r (R137, R138) and stack_adj (R141) have statements
of their own. -/
def Obligations.ImmediateRanges : Prop :=
  ∀ (w : Inst) (x : Xlen),
    let imm (c : Codec) : Int := (materialize c w x).imm.toInt
    (∀ (c : Codec) (least greatest scale : Int), (c, least, greatest, scale) ∈ ([
        (.i, -2048, 2047, 1), (.s, -2048, 2047, 1), (.b, -4096, 4094, 2), (.j, -1048576, 1048574, 2),
        (.u, -2147483648, 2147479552, 4096), (.i_sh5, 0, 31, 1), (.i_sh6, 0, 63, 1), (.i_csri, 0, 31, 1), (.fli, 0, 31, 1),
        (.ciw_4spn, 0, 1020, 4), (.ci_16sp, -512, 496, 16), (.ci_lui, -131072, 126976, 4096),
        (.ci, -32, 31, 1), (.ci_li, -32, 31, 1), (.cb_imm, -32, 31, 1),
        (.cj, -2048, 2046, 2), (.cj_jal, -2048, 2046, 2), (.cb, -256, 254, 2),
        (.cl_lw, 0, 124, 4), (.cs_sw, 0, 124, 4), (.ci_lwsp, 0, 252, 4), (.css_swsp, 0, 252, 4),
        (.cl_ld, 0, 248, 8), (.cs_sd, 0, 248, 8), (.ci_ldsp, 0, 504, 8), (.css_sdsp, 0, 504, 8),
        (.cl_lq, 0, 496, 16), (.cs_sq, 0, 496, 16), (.ci_lqsp, 0, 1008, 16), (.css_sqsp, 0, 1008, 16),
        (.zcb_lb, 0, 3, 1), (.zcb_sb, 0, 3, 1), (.zcb_lh, 0, 2, 2), (.zcb_sh, 0, 2, 2),
        (.v_i, -16, 15, 1), (.v_iu, 0, 31, 1), (.vsetivli, 0, 31, 1), (.zcmt_jt, 0, 255, 1), (.r_imm2, 0, 3, 1),
        (.r2_imm6, 0, 63, 1), (.r2_imm5, 0, 31, 1), (.r2_immhl, 0, 63, 1)] : List (Codec × Int × Int × Int)) →
      least ≤ imm c ∧ imm c ≤ greatest ∧ imm c % scale = 0) ∧
    imm .cj_jal = imm .cj ∧ (0 ≤ imm .i_sh ∧ imm .i_sh < x.bits) ∧
    (materialize .vsetivli w x).vzimm.toNat < 1024 ∧ (materialize .r2_immhl w x).imm1.toNat < 64 ∧
    ∀ c ∈ ([.none, .i_csr, .r, .r_m, .r2, .r2_m, .r4_m, .r_a, .r_l, .r_f, .r_s12, .r_s1, .k_bs, .k_rnum, .vsetvli, .v_r,
        .v_r2, .v_rd, .v_ldst_u, .v_ldst, .ci_none, .cr, .cr_mv, .cr_jr, .cr_jalr, .cs, .zcb_ext, .zcmp_mv] : List Codec),
      imm c = 0

/-- shamt_l and shamt_r (R137, R138), as numbers. -/
def Obligations.CompressedShiftAmounts : Prop :=
  ∀ (w : Inst) (x : Xlen),
    let v := 32 * (w.extractLsb' 12 1).toNat + (w.extractLsb' 2 5).toNat
    (materialize .ci_sh w x).imm.toNat = (if x = .x128 ∧ v = 0 then 64 else v) ∧
    (materialize .cb_sh w x).imm.toNat =
      if x = .x128 then (if v = 0 then 64 else if v < 32 then v else v + 64) else v

/-- stack_adj (R141), by what rounding up to 16 bytes means. -/
def Obligations.StackAdjustment : Prop :=
  ∀ (rlist : BitVec 4) (spimm : BitVec 2) (x : Xlen),
    let regs := if rlist.toNat < 4 then 0 else if rlist.toNat = 15 then 13 else rlist.toNat - 3
    let bytes := regs * (match x with | .x32 => 4 | .x64 => 8 | .x128 => 16)
    stackAdj rlist spimm x % 16 = 0 ∧ bytes + 16 * spimm.toNat ≤ stackAdj rlist spimm x ∧
      stackAdj rlist spimm x < bytes + 16 * spimm.toNat + 16

/-- sreg (R140). -/
def Obligations.ZcmpRegisterMap : Prop :=
  (∀ p : BitVec 3, (sreg p).toNat = if p.toNat < 2 then p.toNat + 8 else p.toNat + 16) ∧
  ∀ (w : Inst) (x : Xlen), (materialize .zcmp_mv w x).rs1 = sreg (w.extractLsb' 7 3) ∧
    (materialize .zcmp_mv w x).rs2 = sreg (w.extractLsb' 2 3)

/-- R1023 with its list R8000 to R8002. -/
def Obligations.AddiDecodes : Prop :=
  ∀ (s : State) (imm : BitVec 12) (rs1 : RegIdx) (rd : RegIdx),
    s.presents32 (imm ++ rs1 ++ 0b000#3 ++ rd ++ 0b0010011#7) →
    StepGives s
      { len := 4, codec := .i, rd := rd, rs1 := rs1, imm := imm.signExtend 32,
        op := .std (if rd = 0 ∧ rs1 = 0 ∧ imm = 0 then .nop else if imm = 0 then .mv else if rs1 = 0 then .li else .addi) }

/-- R1003 with its list, in order (48_pseudo.md; 90_conflicts.md C4). -/
def Obligations.JalrLiftsInOrder : Prop :=
  ∀ (s : State) (imm : BitVec 12) (rs1 : RegIdx) (rd : RegIdx),
    s.presents32 (imm ++ rs1 ++ 0b000#3 ++ rd ++ 0b1100111#7) →
    StepGives s
      { len := 4, codec := .i, rd := rd, rs1 := rs1, imm := imm.signExtend 32,
        op := .std (if rd = 0 ∧ rs1 = 1 ∧ imm = 0 then .ret else if rd = 0 ∧ imm = 0 then .jr
          else if rd = 1 ∧ imm = 0 then .jalrP else .jalr) }

/-- R1004 to R1009 with the B immediate of R106; the other two codes have no row. -/
def Obligations.BranchesDecode : Prop :=
  ∀ (s : State) (b12 : BitVec 1) (hi : BitVec 6) (rs2 : RegIdx) (rs1 : RegIdx) (f3 : BitVec 3) (lo : BitVec 4) (b11 : BitVec 1),
    s.presents32 (b12 ++ hi ++ rs2 ++ rs1 ++ f3 ++ lo ++ b11 ++ 0b1100011#7) →
    s.vendorRows = [] →
    StepGives s
      (if f3 = 2 ∨ f3 = 3 then { len := 4 } else
        { len := 4, codec := .b, rs1 := rs1, rs2 := rs2, imm := (b12 ++ b11 ++ hi ++ lo ++ 0#1).signExtend 32,
          op := .std (if f3 = 0 then (if rs2 = 0 then .beqz else .beq)
            else if f3 = 1 then (if rs2 = 0 then .bnez else .bne)
            else if f3 = 4 then (if rs2 = 0 then .bltz else if rs1 = 0 then .bgtz else .blt)
            else if f3 = 5 then (if rs1 = 0 then .blez else if rs2 = 0 then .bgez else .bge)
            else if f3 = 6 then .bltu else .bgeu) })

/-- R1021, whose row XLEN 32 does not have (R114). -/
def Obligations.StoreDoubleNeedsXlen64 : Prop :=
  ∀ (s : State) (hi : BitVec 7) (rs2 : RegIdx) (rs1 : RegIdx) (lo : BitVec 5),
    s.presents32 (hi ++ rs2 ++ rs1 ++ 0b011#3 ++ lo ++ 0b0100011#7) →
    s.vendorRows = [] →
    StepGives s
      (if s.xlen = .x32 then { len := 4 } else
        { len := 4, op := .std .sd, codec := .s, rs1 := rs1, rs2 := rs2, imm := (hi ++ lo).signExtend 32 })

/-- Out-of-range CSR numbers are not errors (R109, R9003). -/
def Obligations.CsrClearTakesAnyNumber : Prop :=
  ∀ (s : State) (csr : BitVec 12) (rs1 : RegIdx) (rd : RegIdx),
    s.presents32 (csr ++ rs1 ++ 0b011#3 ++ rd ++ 0b1110011#7) →
    StepGives s
      { len := 4, codec := .i_csr, rd := rd, rs1 := rs1, csr := csr, op := .std (if rd = 0 then .csrc else .csrrc) }

/-- The fields of fence that are not checked (R122), and those the record reports (R70). -/
def Obligations.FenceIgnoresUncheckedFields : Prop :=
  ∀ (s : State) (fm : BitVec 4) (pred : BitVec 4) (succ : BitVec 4) (rs1 : RegIdx) (rd : RegIdx),
    s.presents32 (fm ++ pred ++ succ ++ rs1 ++ 0b000#3 ++ rd ++ 0b0001111#7) →
    StepGives s
      { len := 4, op := .std .fence, codec := .r_f, pred := pred, succ := succ }

/-- Atomics decode their ordering fields into the record (R70, R122). -/
def Obligations.AtomicOrderingBits : Prop :=
  ∀ (s : State) (aq : BitVec 1) (rl : BitVec 1) (rs2 : RegIdx) (rs1 : RegIdx) (rd : RegIdx),
    s.presents32 (0b00000#5 ++ aq ++ rl ++ rs2 ++ rs1 ++ 0b010#3 ++ rd ++ 0b0101111#7) →
    StepGives s
      { len := 4, op := .std .amoaddW, codec := .r_a, rd := rd, rs1 := rs1, rs2 := rs2, aq := aq, rl := rl }

/-- lr.w has the field at rs2 fixed (its row in 41_base_integer), so another value decodes to illegal (R121). -/
def Obligations.LoadReservedNeedsZeroRs2 : Prop :=
  ∀ (s : State) (aq : BitVec 1) (rl : BitVec 1) (f : RegIdx) (rs1 : RegIdx) (rd : RegIdx),
    s.presents32 (0b00010#5 ++ aq ++ rl ++ f ++ rs1 ++ 0b010#3 ++ rd ++ 0b0101111#7) →
    s.vendorRows = [] →
    StepGives s
      (if f = 0 then { len := 4, op := .std .lrW, codec := .r_l, rd := rd, rs1 := rs1, aq := aq, rl := rl }
        else { len := 4 })

/-- Reserved rounding modes decode like any other value (R109, R9003). -/
def Obligations.FloatAddTakesAnyRoundingMode : Prop :=
  ∀ (s : State) (fmt : BitVec 2) (rs2 : RegIdx) (rs1 : RegIdx) (rm : BitVec 3) (rd : RegIdx),
    s.presents32 (0b00000#5 ++ fmt ++ rs2 ++ rs1 ++ rm ++ rd ++ 0b1010011#7) →
    StepGives s
      { len := 4, codec := .r_m, rd := rd, rs1 := rs1, rs2 := rs2, rm := rm,
        op := .std (if fmt = 0 then .faddS else if fmt = 1 then .faddD else if fmt = 2 then .faddH else .faddQ) }

/-- The R4 format (R101, R315). -/
def Obligations.FusedMultiplyAddDecodes : Prop :=
  ∀ (s : State) (rs3 : RegIdx) (rs2 : RegIdx) (rs1 : RegIdx) (rm : BitVec 3) (rd : RegIdx),
    s.presents32 (rs3 ++ 0b01#2 ++ rs2 ++ rs1 ++ rm ++ rd ++ 0b1000011#7) →
    StepGives s
      { len := 4, op := .std .fmaddD, codec := .r4_m, rd := rd, rs1 := rs1, rs2 := rs2, rs3 := rs3, rm := rm }

/-- rnum above 10 is excluded (R115, R121), and the row has XLEN 64 only (R114). -/
def Obligations.AesRoundNumbers : Prop :=
  ∀ (s : State) (rnum : BitVec 4) (rs1 : RegIdx) (rd : RegIdx),
    s.presents32 (0b00110001#8 ++ rnum ++ rs1 ++ 0b001#3 ++ rd ++ 0b0010011#7) →
    s.vendorRows = [] →
    StepGives s
      (if s.xlen = .x64 ∧ rnum.toNat ≤ 10 then
          { len := 4, op := .std .aes64ks1i, codec := .k_rnum, rd := rd, rs1 := rs1, rnum := rnum }
        else { len := 4 })

/-- Width-dependent meaning of one pattern (R114), the primed registers (R139) and the scaled offsets (R107). -/
def Obligations.CompressedFlwOrLd : Prop :=
  ∀ (s : State) (hi : BitVec 3) (rs1p : BitVec 3) (b6 : BitVec 1) (b5 : BitVec 1) (rdp : BitVec 3),
    s.presents16 (0b011#3 ++ hi ++ rs1p ++ b6 ++ b5 ++ rdp ++ 0b00#2) →
    StepGives s
      (if s.xlen = .x32 then
          { len := 2, op := .std .flw, codec := .i, rd := 0b01#2 ++ rdp, rs1 := 0b01#2 ++ rs1p,
            imm := (b5 ++ hi ++ b6 ++ 0#2).setWidth 32 }
        else { len := 2, op := .std .ld, codec := .i, rd := 0b01#2 ++ rdp, rs1 := 0b01#2 ++ rs1p,
               imm := (b6 ++ b5 ++ hi ++ 0#3).setWidth 32 })

/-- The Zcmp carve-out (R116), its reserved words (R120) and the adjustment (R141, R367). -/
def Obligations.PushOrCompressedStore : Prop :=
  ∀ (s : State) (rlist : BitVec 4) (spimm : BitVec 2),
    s.presents16 (0b10111000#8 ++ rlist ++ spimm ++ 0b10#2) →
    StepGives s
      (if s.cfg.zcmp = true then
          (if rlist.toNat < 4 then { len := 2 }
           else { len := 2, op := .std .cmPush, codec := .zcmp_push, rlist := rlist,
                  imm := -BitVec.ofNat 32 (stackAdj rlist spimm s.xlen) })
        else if s.xlen = .x128 then
          { len := 2, op := .std .sq, codec := .s, rs1 := 2, rs2 := rlist.extractLsb' 0 3 ++ spimm,
            imm := (rlist.extractLsb' 3 1 ++ 0b11#2 ++ 0#4).setWidth 32 }
        else
          { len := 2, op := .std .fsd, codec := .s, rs1 := 2, rs2 := rlist.extractLsb' 0 3 ++ spimm,
            imm := (rlist.extractLsb' 3 1 ++ 0b110#3 ++ 0#3).setWidth 32 })

/-- OPIVI arithmetic takes simm5 (R108). -/
def Obligations.VectorImmediateIsSignedForAdd : Prop :=
  ∀ (s : State) (vm : BitVec 1) (vs2 : RegIdx) (simm : BitVec 5) (vd : RegIdx),
    s.presents32 (0b000000#6 ++ vm ++ vs2 ++ simm ++ 0b011#3 ++ vd ++ 0b1010111#7) →
    StepGives s
      { len := 4, op := .std .vaddVi, codec := .v_i, rd := vd, rs2 := vs2, vm := vm, imm := simm.signExtend 32 }

/-- OPIVI shifts take an unsigned immediate (R108). -/
def Obligations.VectorImmediateIsUnsignedForShift : Prop :=
  ∀ (s : State) (vm : BitVec 1) (vs2 : RegIdx) (uimm : BitVec 5) (vd : RegIdx),
    s.presents32 (0b100101#6 ++ vm ++ vs2 ++ uimm ++ 0b011#3 ++ vd ++ 0b1010111#7) →
    StepGives s
      { len := 4, op := .std .vsllVi, codec := .v_iu, rd := vd, rs2 := vs2, vm := vm, imm := uimm.setWidth 32 }

/-- R108 and codec vsetivli (R325). -/
def Obligations.VsetivliDecodes : Prop :=
  ∀ (s : State) (zimm : BitVec 10) (uimm : BitVec 5) (rd : RegIdx),
    s.presents32 (0b11#2 ++ zimm ++ uimm ++ 0b111#3 ++ rd ++ 0b1010111#7) →
    StepGives s
      { len := 4, op := .std .vsetivli, codec := .vsetivli, rd := rd, imm := uimm.setWidth 32, vzimm := zimm.setWidth 11 }

/-- nf is part of the opcode (46_vector_ldst); mew 1 is reserved (R121). -/
def Obligations.SegmentLoadsByCount : Prop :=
  ∀ (s : State) (nf : BitVec 3) (mew : BitVec 1) (vm : BitVec 1) (rs1 : RegIdx) (rd : RegIdx),
    s.presents32 (nf ++ mew ++ 0b00#2 ++ vm ++ 0b00000#5 ++ rs1 ++ 0b110#3 ++ rd ++ 0b0000111#7) →
    s.vendorRows = [] →
    StepGives s
      (if mew = 1 then { len := 4 } else
        { len := 4, codec := .v_ldst_u, rd := rd, rs1 := rs1, vm := vm,
          op := .std (if nf = 0 then .vle32V else if nf = 1 then .vlseg2e32V else if nf = 2 then .vlseg3e32V
            else if nf = 3 then .vlseg4e32V else if nf = 4 then .vlseg5e32V else if nf = 5 then .vlseg6e32V
            else if nf = 6 then .vlseg7e32V else .vlseg8e32V) })

/-- The guard of entry 1 (R201, R202), scenario 2 of 95_test_vectors.md. -/
def Obligations.TheadAddslNeedsItsFlag : Prop :=
  ∀ (s : State) (imm2 : BitVec 2) (rs2 : RegIdx) (rs1 : RegIdx) (rd : RegIdx),
    s.presents32 (0b00000#5 ++ imm2 ++ rs2 ++ rs1 ++ 0b001#3 ++ rd ++ 0b0001011#7) →
    s.vendorRows = [] →
    StepGives s
      (if s.cfg.xtheadba = true then
          { len := 4, catalog := .xthead, op := .std .thAddsl, codec := .r_imm2, rd := rd, rs1 := rs1, rs2 := rs2,
            imm := imm2.setWidth 32 }
        else { len := 4 })

/-- The secondary immediate of the record (R36, R374). -/
def Obligations.TheadExtHasTwoImmediates : Prop :=
  ∀ (s : State) (immh : BitVec 6) (imml : BitVec 6) (rs1 : RegIdx) (rd : RegIdx),
    s.presents32 (immh ++ imml ++ rs1 ++ 0b010#3 ++ rd ++ 0b0001011#7) →
    s.cfg.xtheadbb = true →
    StepGives s
      { len := 4, catalog := .xthead, op := .std .thExt, codec := .r2_immhl, rd := rd, rs1 := rs1, imm := immh.setWidth 32,
        imm1 := imml.setWidth 32 }

/-- Entry 12 of the table (R201) in custom-3 (R124). -/
def Obligations.VentanaMaskDecodes : Prop :=
  ∀ (s : State) (rs2 : RegIdx) (rs1 : RegIdx) (n : BitVec 1) (rd : RegIdx),
    s.presents32 (0b0000000#7 ++ rs2 ++ rs1 ++ 0b11#2 ++ n ++ rd ++ 0b1111011#7) →
    s.vendorRows = [] →
    StepGives s
      (if s.cfg.xventanacondops = true then
          { len := 4, catalog := .xventana, op := .std (if n = 0 then .vtMaskc else .vtMaskcn), codec := .r, rd := rd,
            rs1 := rs1, rs2 := rs2 }
        else { len := 4 })

/-- Worked traces (R215) and an example of each family. That 0x4501 is named c.li and 0x0000 c.addi4spn (their final
records are mv and illegal) while 0x00000013 is named nop is the model's choice (assumption log 9). -/
def Obligations.WrittenWordsDecode : Prop :=
  let dec (w : Nat) (cfg : Cfg) : Decoded := decode (tableWindow 32 w) .x64 cfg []
  dec 0x00000013 {} = .instr .nop ∧ dec 0x264b89b7 {} = .instr .lui ∧ dec 0x4501 {} = .instr .cLi ∧
  dec 0x0000 {} = .instr .cAddi4spn ∧ dec 0x6d899857 {} = .instr .vmfltVv ∧ dec 0x02000387 {} = .instr .vle8V ∧
  dec 0x50751207 {} = .instr .flh ∧ dec 0x0ac19fb3 {} = .instr .clmul ∧
  dec 0x00008067 {} = .instr .ret ∧ dec 0x000080e7 {} = .instr .jalrP ∧
  dec 0x0000100b { xtheadba := true } = .instr .thAddsl ∧ dec 0x0000100b {} = .rejected .noRow ∧
  dec 0x007f {} = .rejected .lengthPrefix ∧ dec 0x001f {} = .rejected .wideInstruction

/-- The record of each opcode named, with its codec and catalog written out (its rule in 45 to 48; R206, R207, R211,
R214), for every state: none stops (R9000). That a pseudo-opcode is run under its own name is the model's choice
(assumption log 9). -/
def Obligations.LaterOpcodesGiveTheirRecord : Prop :=
  ∀ s : State,
    let record (c : Codec) (k : Catalog) (i : Instr) : DecodedRecord :=
      { materialize c s.inst s.xlen with len := fetchLen (s.unitAt 0), catalog := k, op := .std i, codec := c }
    let o := materialize .v_r s.inst s.xlen
    (∀ i ∈ ([.vmsofM, .vmsifM, .viotaM, .vfmvFS, .vfcvtXuFV, .vfcvtXFV, .vfcvtFXuV, .vfcvtFXV, .vfcvtRtzXuFV,
        .vfcvtRtzXFV, .vfwcvtXuFV, .vfwcvtXFV, .vfwcvtFXuV, .vfwcvtFXV, .vfwcvtFFV, .vfwcvtRtzXuFV,
        .vfwcvtRtzXFV, .vfncvtXuFW, .vfncvtXFW, .vfncvtFXuW, .vfncvtFXW, .vfncvtFFW, .vfncvtRodFFW,
        .vfncvtRtzXuFW, .vfncvtRtzXFW, .vfsqrtV, .vfrsqrt7V, .vfrec7V, .vfclassV] : List Instr),
      ExecGives i s (record .v_r2 .base i)) ∧
    (∀ i ∈ ([.vidV] : List Instr),
      ExecGives i s (record .v_rd .base i)) ∧
    (∀ i ∈ ([.vcompressVm, .vmandnMm, .vmorMm, .vmornMm, .vmnorMm, .vfaddVv, .vfaddVf, .vfsubVv, .vfsubVf,
        .vfminVv, .vfminVf, .vfmaxVv, .vfmaxVf, .vfsgnjVv, .vfsgnjVf, .vfsgnjnVf, .vfsgnjxVf, .vfslide1upVf,
        .vfslide1downVf, .vmfeqVv, .vmfeqVf, .vmfleVv, .vmfleVf, .vmfltVv, .vmfltVf, .vmfneVv, .vmfneVf,
        .vmfgtVf, .vmfgeVf, .vfdivVv, .vfdivVf, .vfrdivVf, .vfmulVv, .vfmulVf, .vfrsubVf, .vfmaddVv, .vfmaddVf,
        .vfnmaddVv, .vfnmaddVf, .vfmsubVv, .vfmsubVf, .vfnmsubVv, .vfnmsubVf, .vfmaccVv, .vfmaccVf, .vfnmaccVv,
        .vfnmaccVf, .vfmsacVv, .vfmsacVf, .vfnmsacVv, .vfnmsacVf, .vfwaddVv, .vfwaddVf, .vfwsubVv, .vfwsubVf,
        .vfwmulVv, .vfwmulVf, .vfwmaccVv, .vfwmaccVf, .vfwnmaccVv, .vfwnmaccVf, .vfwmsacVv, .vfwmsacVf,
        .vfwnmsacVv, .vfwnmsacVf, .vfredusumVs, .vfredosumVs, .vfredminVs, .vfredmaxVs, .vfwredusumVs,
        .vfwredosumVs, .vfwaddWv, .vfwaddWf, .vfwsubWv, .vfwsubWf, .vfmvSF, .vfmergeVfm, .vfmvVF] : List Instr),
      ExecGives i s (record .v_r .base i)) ∧
    (∀ i ∈ ([.vle8V, .vle8ffV, .vse8V, .vlseg2e8V, .vlseg2e8ffV, .vsseg2e8V, .vlseg3e8V, .vlseg3e8ffV,
        .vsseg3e8V, .vlseg4e8V, .vlseg4e8ffV, .vsseg4e8V, .vlseg5e8V, .vlseg5e8ffV, .vsseg5e8V, .vlseg6e8V,
        .vlseg6e8ffV, .vsseg6e8V, .vlseg7e8V, .vlseg7e8ffV, .vsseg7e8V, .vlseg8e8V, .vlseg8e8ffV, .vsseg8e8V] : List Instr),
      ExecGives i s (record .v_ldst_u .base i)) ∧
    (∀ i ∈ ([.vlse8V, .vsse8V, .vluxei8V, .vsuxei8V, .vloxei8V, .vsoxei8V, .vlsseg2e8V, .vssseg2e8V,
        .vluxseg2ei8V, .vsuxseg2ei8V, .vloxseg2ei8V, .vsoxseg2ei8V, .vlsseg3e8V, .vssseg3e8V, .vluxseg3ei8V,
        .vsuxseg3ei8V, .vloxseg3ei8V, .vsoxseg3ei8V, .vlsseg4e8V, .vssseg4e8V, .vluxseg4ei8V, .vsuxseg4ei8V,
        .vloxseg4ei8V, .vsoxseg4ei8V, .vlsseg5e8V, .vssseg5e8V, .vluxseg5ei8V, .vsuxseg5ei8V, .vloxseg5ei8V,
        .vsoxseg5ei8V, .vlsseg6e8V, .vssseg6e8V, .vluxseg6ei8V, .vsuxseg6ei8V, .vloxseg6ei8V, .vsoxseg6ei8V,
        .vlsseg7e8V, .vssseg7e8V, .vluxseg7ei8V, .vsuxseg7ei8V, .vloxseg7ei8V, .vsoxseg7ei8V, .vlsseg8e8V,
        .vssseg8e8V, .vluxseg8ei8V, .vsuxseg8ei8V, .vloxseg8ei8V, .vsoxseg8ei8V] : List Instr),
      ExecGives i s (record .v_ldst .base i)) ∧
    (∀ i ∈ ([.vl1re8V, .vl2re8V, .vl4re8V, .vl8re8V, .vl1re16V, .vl2re16V, .vl4re16V, .vl8re16V, .vl1re32V,
        .vl2re32V, .vl4re32V, .vl8re32V, .vl1re64V, .vl2re64V, .vl4re64V, .vl8re64V, .vs1rV, .vs2rV, .vs4rV,
        .vs8rV, .vlmV, .vsmV] : List Instr),
      ExecGives i s (record .v_ldst_u .base i)) ∧
    (∀ i ∈ ([.vle16V, .vle16ffV, .vse16V, .vlseg2e16V, .vlseg2e16ffV, .vsseg2e16V, .vlseg3e16V, .vlseg3e16ffV,
        .vsseg3e16V, .vlseg4e16V, .vlseg4e16ffV, .vsseg4e16V, .vlseg5e16V, .vlseg5e16ffV, .vsseg5e16V,
        .vlseg6e16V, .vlseg6e16ffV, .vsseg6e16V, .vlseg7e16V, .vlseg7e16ffV, .vsseg7e16V, .vlseg8e16V,
        .vlseg8e16ffV, .vsseg8e16V] : List Instr),
      ExecGives i s (record .v_ldst_u .base i)) ∧
    (∀ i ∈ ([.vlse16V, .vsse16V, .vluxei16V, .vsuxei16V, .vloxei16V, .vsoxei16V, .vlsseg2e16V, .vssseg2e16V,
        .vluxseg2ei16V, .vsuxseg2ei16V, .vloxseg2ei16V, .vsoxseg2ei16V, .vlsseg3e16V, .vssseg3e16V,
        .vluxseg3ei16V, .vsuxseg3ei16V, .vloxseg3ei16V, .vsoxseg3ei16V, .vlsseg4e16V, .vssseg4e16V,
        .vluxseg4ei16V, .vsuxseg4ei16V, .vloxseg4ei16V, .vsoxseg4ei16V, .vlsseg5e16V, .vssseg5e16V,
        .vluxseg5ei16V, .vsuxseg5ei16V, .vloxseg5ei16V, .vsoxseg5ei16V, .vlsseg6e16V, .vssseg6e16V,
        .vluxseg6ei16V, .vsuxseg6ei16V, .vloxseg6ei16V, .vsoxseg6ei16V, .vlsseg7e16V, .vssseg7e16V,
        .vluxseg7ei16V, .vsuxseg7ei16V, .vloxseg7ei16V, .vsoxseg7ei16V, .vlsseg8e16V, .vssseg8e16V,
        .vluxseg8ei16V, .vsuxseg8ei16V, .vloxseg8ei16V, .vsoxseg8ei16V] : List Instr),
      ExecGives i s (record .v_ldst .base i)) ∧
    (∀ i ∈ ([.vle32V, .vle32ffV, .vse32V, .vlseg2e32V, .vlseg2e32ffV, .vsseg2e32V, .vlseg3e32V, .vlseg3e32ffV,
        .vsseg3e32V, .vlseg4e32V, .vlseg4e32ffV, .vsseg4e32V, .vlseg5e32V, .vlseg5e32ffV, .vsseg5e32V,
        .vlseg6e32V, .vlseg6e32ffV, .vsseg6e32V, .vlseg7e32V, .vlseg7e32ffV, .vsseg7e32V, .vlseg8e32V,
        .vlseg8e32ffV, .vsseg8e32V] : List Instr),
      ExecGives i s (record .v_ldst_u .base i)) ∧
    (∀ i ∈ ([.vlse32V, .vsse32V, .vluxei32V, .vsuxei32V, .vloxei32V, .vsoxei32V, .vlsseg2e32V, .vssseg2e32V,
        .vluxseg2ei32V, .vsuxseg2ei32V, .vloxseg2ei32V, .vsoxseg2ei32V, .vlsseg3e32V, .vssseg3e32V,
        .vluxseg3ei32V, .vsuxseg3ei32V, .vloxseg3ei32V, .vsoxseg3ei32V, .vlsseg4e32V, .vssseg4e32V,
        .vluxseg4ei32V, .vsuxseg4ei32V, .vloxseg4ei32V, .vsoxseg4ei32V, .vlsseg5e32V, .vssseg5e32V,
        .vluxseg5ei32V, .vsuxseg5ei32V, .vloxseg5ei32V, .vsoxseg5ei32V, .vlsseg6e32V, .vssseg6e32V,
        .vluxseg6ei32V, .vsuxseg6ei32V, .vloxseg6ei32V, .vsoxseg6ei32V, .vlsseg7e32V, .vssseg7e32V,
        .vluxseg7ei32V, .vsuxseg7ei32V, .vloxseg7ei32V, .vsoxseg7ei32V, .vlsseg8e32V, .vssseg8e32V,
        .vluxseg8ei32V, .vsuxseg8ei32V, .vloxseg8ei32V, .vsoxseg8ei32V] : List Instr),
      ExecGives i s (record .v_ldst .base i)) ∧
    (∀ i ∈ ([.vle64V, .vle64ffV, .vse64V, .vlseg2e64V, .vlseg2e64ffV, .vsseg2e64V, .vlseg3e64V, .vlseg3e64ffV,
        .vsseg3e64V, .vlseg4e64V, .vlseg4e64ffV, .vsseg4e64V, .vlseg5e64V, .vlseg5e64ffV, .vsseg5e64V,
        .vlseg6e64V, .vlseg6e64ffV, .vsseg6e64V, .vlseg7e64V, .vlseg7e64ffV, .vsseg7e64V, .vlseg8e64V,
        .vlseg8e64ffV, .vsseg8e64V] : List Instr),
      ExecGives i s (record .v_ldst_u .base i)) ∧
    (∀ i ∈ ([.vlse64V, .vsse64V, .vluxei64V, .vsuxei64V, .vloxei64V, .vsoxei64V, .vlsseg2e64V, .vssseg2e64V,
        .vluxseg2ei64V, .vsuxseg2ei64V, .vloxseg2ei64V, .vsoxseg2ei64V, .vlsseg3e64V, .vssseg3e64V,
        .vluxseg3ei64V, .vsuxseg3ei64V, .vloxseg3ei64V, .vsoxseg3ei64V, .vlsseg4e64V, .vssseg4e64V,
        .vluxseg4ei64V, .vsuxseg4ei64V, .vloxseg4ei64V, .vsoxseg4ei64V, .vlsseg5e64V, .vssseg5e64V,
        .vluxseg5ei64V, .vsuxseg5ei64V, .vloxseg5ei64V, .vsoxseg5ei64V, .vlsseg6e64V, .vssseg6e64V,
        .vluxseg6ei64V, .vsuxseg6ei64V, .vloxseg6ei64V, .vsoxseg6ei64V, .vlsseg7e64V, .vssseg7e64V,
        .vluxseg7ei64V, .vsuxseg7ei64V, .vloxseg7ei64V, .vsoxseg7ei64V, .vlsseg8e64V, .vssseg8e64V,
        .vluxseg8ei64V, .vsuxseg8ei64V, .vloxseg8ei64V, .vsoxseg8ei64V] : List Instr),
      ExecGives i s (record .v_ldst .base i)) ∧
    (∀ i ∈ ([.thAddsl] : List Instr),
      ExecGives i s (record .r_imm2 .xthead i)) ∧
    (∀ i ∈ ([.thSrri, .thTst] : List Instr),
      ExecGives i s (record .r2_imm6 .xthead i)) ∧
    (∀ i ∈ ([.thSrriw] : List Instr),
      ExecGives i s (record .r2_imm5 .xthead i)) ∧
    (∀ i ∈ ([.thExt, .thExtu] : List Instr),
      ExecGives i s (record .r2_immhl .xthead i)) ∧
    (∀ i ∈ ([.thFf0, .thFf1, .thRev, .thRevw, .thTstnbz] : List Instr),
      ExecGives i s (record .r2 .xthead i)) ∧
    (∀ i ∈ ([.thMveqz, .thMvnez] : List Instr),
      ExecGives i s (record .r .xthead i)) ∧
    (∀ i ∈ ([.vtMaskc, .vtMaskcn] : List Instr),
      ExecGives i s (record .r .xventana i)) ∧
    (∀ i ∈ ([.nop, .mv, .li, .sextW, .not, .seqz, .ret, .jr, .jalrP] : List Instr),
      ExecGives i s (record .i .base i)) ∧
    (∀ i ∈ ([.snez, .sltz, .sgtz, .neg, .negw, .fmvS, .fnegS, .fabsS, .fmvD, .fnegD, .fabsD, .fmvH, .fnegH,
        .fabsH, .fmvQ, .fnegQ, .fabsQ, .zextW] : List Instr),
      ExecGives i s (record .r .base i)) ∧
    (∀ i ∈ ([.beqz, .bnez, .bltz, .bgtz, .blez, .bgez] : List Instr),
      ExecGives i s (record .b .base i)) ∧
    (∀ i ∈ ([.j, .jalP] : List Instr),
      ExecGives i s (record .j .base i)) ∧
    (∀ i ∈ ([.fsrm, .fsflags, .fscsr, .csrw, .rdcycle, .rdtime, .rdinstret, .rdcycleh, .rdtimeh, .rdinstreth,
        .frcsr, .frrm, .frflags, .csrr, .csrs, .csrc] : List Instr),
      ExecGives i s (record .i_csr .base i)) ∧
    (∀ i ∈ ([.fsrmi, .fsflagsi, .csrwi, .csrsi, .csrci] : List Instr),
      ExecGives i s (record .i_csri .base i)) ∧
    (∀ i ∈ ([.vnotV] : List Instr),
      ExecGives i s (record .v_i .base i)) ∧
    (∀ i ∈ ([.vnegV, .vwcvtXXV, .vwcvtuXXV, .vncvtXXW, .vmmvM, .vmnotM, .vmclrM, .vmsetM, .vfnegV, .vfabsV] : List Instr),
      ExecGives i s (record .v_r .base i)) ∧
    ExecGives .vmandMm s (record .v_r .base (if o.rs2 = o.rs1 then .vmmvM else .vmandMm)) ∧
    ExecGives .vmxorMm s (record .v_r .base (if o.rd = o.rs1 ∧ o.rs2 = o.rs1 then .vmclrM else .vmxorMm)) ∧
    ExecGives .vmnandMm s (record .v_r .base (if o.rs2 = o.rs1 then .vmnotM else .vmnandMm)) ∧
    ExecGives .vmxnorMm s (record .v_r .base (if o.rd = o.rs1 ∧ o.rs2 = o.rs1 then .vmsetM else .vmxnorMm)) ∧
    ExecGives .vfsgnjnVv s (record .v_r .base (if o.rs2 = o.rs1 then .vfnegV else .vfsgnjnVv)) ∧
    ExecGives .vfsgnjxVv s (record .v_r .base (if o.rs2 = o.rs1 then .vfabsV else .vfsgnjxVv))

end
end

