-- ==== Sys2Proof/Laws/Decode.lean ====
section
/-! SUPPORT. Laws/Decode.lean: trying a tree's parts by their shared bits first finds the row that a scan of all its rows
finds (30_encoding.md R104). -/

namespace Sys2Proof

/-- Every row of the part fixes the part's bits, at the part's values. -/
def Part.fits (p : Part) : Bool :=
  p.rows.all (fun r => r.mask.toNat &&& p.mask.toNat == p.mask.toNat && r.value.toNat &&& p.mask.toNat == p.value.toNat)

/-- A word that a row matches has the row's fixed bits. -/
theorem Row.fixed_of_matches {r : Row} {w : Inst} {len : Nat} {x : Xlen} {cfg : Cfg}
    (h : r.matchesWord w len x cfg = true) : w.toNat &&& r.mask.toNat = r.value.toNat := by
  simp only [Row.matchesWord, Bool.and_eq_true, beq_iff_eq] at h
  exact h.1.1.1.1

/-- A part that fits finds the first of its rows that matches. -/
theorem Part.search_eq_find? {p : Part} (hp : p.fits = true) (w : Inst) (len : Nat) (x : Xlen) (cfg : Cfg) :
    p.search w len x cfg = p.rows.find? (fun r => r.matchesWord w len x cfg) := by
  by_cases hw : w.toNat &&& p.mask.toNat = p.value.toNat
  · simp [Part.search, hw]
  · have none_matches : ∀ r ∈ p.rows, ¬ r.matchesWord w len x cfg = true := by
      intro r hr hm
      have fixed := Row.fixed_of_matches hm
      have fit := List.all_eq_true.mp hp r hr
      simp only [Bool.and_eq_true, beq_iff_eq] at fit
      apply hw
      calc w.toNat &&& p.mask.toNat = w.toNat &&& (r.mask.toNat &&& p.mask.toNat) := by rw [fit.1]
        _ = w.toNat &&& r.mask.toNat &&& p.mask.toNat := (Nat.and_assoc ..).symm
        _ = p.value.toNat := by rw [fixed, fit.2]
    rw [List.find?_eq_none.mpr none_matches]
    simp [Part.search, hw]

/-- Parts that fit find what a scan of all their rows finds. -/
theorem findSome?_search_eq {ps : List Part} (hps : ps.all Part.fits = true) (w : Inst) (len : Nat) (x : Xlen)
    (cfg : Cfg) : ps.findSome? (fun p => p.search w len x cfg)
      = (ps.flatMap Part.rows).find? (fun r => r.matchesWord w len x cfg) := by
  induction ps with
  | nil => rfl
  | cons p ps ih =>
    simp only [List.all_cons, Bool.and_eq_true] at hps
    rw [List.findSome?_cons, List.flatMap_cons, List.find?_append, Part.search_eq_find? hps.1, ih hps.2]
    cases p.rows.find? (fun r => r.matchesWord w len x cfg) <;> rfl

/-- The parts of the base tree fit. -/
theorem baseParts_fit : baseParts.all Part.fits = true := by decide +kernel

/-- The parts of every tree that the spec gives fit. -/
theorem given_parts_fit : dispatchTable.all (fun e => match e.tree with
    | .given parts => parts.all Part.fits
    | .vendorRows _ => true) = true := by decide +kernel

/-- An entry whose tree the spec gives finds the first row of its tree that matches (R203). -/
theorem search_eq_find? {e : DispatchEntry} (he : e ∈ dispatchTable) {parts : List Part} (ht : e.tree = .given parts)
    (w : Inst) (len : Nat) (x : Xlen) (cfg : Cfg) (vr : List VendorRow) :
    e.search w len x cfg vr
      = (e.tree.rows.find? (fun r => r.matchesWord w len x cfg)).map (Hit.row e.catalog) := by
  have fit := List.all_eq_true.mp given_parts_fit e he
  rw [ht] at fit
  rw [DispatchEntry.search, ht, Tree.rows]
  exact congrArg (Option.map (Hit.row e.catalog)) (findSome?_search_eq fit w len x cfg)

end Sys2Proof
end

