-- ==== Sys2Proof/Laws/Dispatch.lean ====
section
/-! SUPPORT. Laws/Dispatch.lean: an entry, or the dispatcher, that finds nothing has no matching row to find. -/

namespace Sys2Proof.Machine

/-- An entry whose search finds nothing holds no matching row (R203). -/
theorem not_entryHasRow_of_search_none {e : DispatchEntry} (he : e ∈ dispatchTable) {s : State}
    (hs : e.search s.inst s.instLen s.xlen s.cfg s.vendorRows = none) (h : Hit) : ¬ EntryHasRow e s h := by
  rintro hrow
  rcases h with ⟨c, r⟩ | ⟨c, v⟩
  · obtain ⟨-, hr, hm⟩ := hrow
    rcases ht : e.tree with parts | f
    · rw [search_eq_find? he ht, Option.map_eq_none_iff, List.find?_eq_none] at hs
      exact hs r hr hm
    · rw [ht] at hr
      exact absurd hr List.not_mem_nil
  · obtain ⟨-, ht, hv, hm⟩ := hrow
    rw [DispatchEntry.search, ht] at hs
    have none_found := List.find?_eq_none.mp (Option.map_eq_none_iff.mp hs) v hv
    simp [hm] at none_found

/-- Where every enabled entry of a list finds nothing, none of them holds a matching row. -/
theorem not_entryHasRow_of_all {es : List DispatchEntry} (hsub : ∀ e ∈ es, e ∈ dispatchTable) {s : State}
    (hall : es.all (fun e => !flagHolds s.cfg e.guard ||
      (e.search s.inst s.instLen s.xlen s.cfg s.vendorRows).isNone) = true) :
    ∀ e ∈ es, flagHolds s.cfg e.guard = true → ∀ h, ¬ EntryHasRow e s h := by
  intro e he hg h
  have found := List.all_eq_true.mp hall e he
  simp only [hg, Bool.not_true, Bool.false_or, Option.isNone_iff_eq_none] at found
  exact not_entryHasRow_of_search_none (hsub e he) found h

/-- Where the dispatcher finds nothing, no enabled entry holds a matching row (R202). -/
theorem not_candidate_of_dispatch_none {s : State}
    (hd : dispatch s.inst s.instLen s.xlen s.cfg s.vendorRows = none) (h : Hit) : ¬ s.Candidate h := by
  rintro ⟨e, he, hg, hrow⟩
  have none_found := List.findSome?_eq_none_iff.mp hd e he
  simp only [hg, if_true] at none_found
  exact not_entryHasRow_of_search_none he none_found h hrow

end Sys2Proof.Machine
end

