-- ==== Sys2Proof/Laws/State.lean ====
section
/-! SUPPORT. Laws/State.lean: one lemma per field for each update of the state. -/

namespace Sys2Proof.Machine

variable (s : State) (r : DecodedRecord) (c : Catalog) (op : Opcode) (k : Codec)

@[simp] theorem State.output_stream : (s.output r).stream = s.stream := rfl
@[simp] theorem State.output_pos : (s.output r).pos = s.pos := rfl
@[simp] theorem State.output_xlen : (s.output r).xlen = s.xlen := rfl
@[simp] theorem State.output_cfg : (s.output r).cfg = s.cfg := rfl
@[simp] theorem State.output_vendorRows : (s.output r).vendorRows = s.vendorRows := rfl
@[simp] theorem State.output_len : (s.output r).len = r.len := rfl
@[simp] theorem State.output_record : (s.output r).record = r := rfl

@[simp] theorem State.advance_stream : s.advance.stream = s.stream.drop (s.len / 2) := rfl
@[simp] theorem State.advance_pos : s.advance.pos = s.pos + s.len / 2 := rfl
@[simp] theorem State.advance_xlen : s.advance.xlen = s.xlen := rfl
@[simp] theorem State.advance_cfg : s.advance.cfg = s.cfg := rfl
@[simp] theorem State.advance_vendorRows : s.advance.vendorRows = s.vendorRows := rfl
@[simp] theorem State.advance_len : s.advance.len = s.len := rfl
@[simp] theorem State.advance_record : s.advance.record = s.record := rfl

@[simp] theorem State.materialized_toOperands :
    (s.materialized c op k).toOperands = materialize k s.inst s.xlen := rfl
@[simp] theorem State.materialized_len : (s.materialized c op k).len = s.instLen := rfl
@[simp] theorem State.materialized_catalog : (s.materialized c op k).catalog = c := rfl
@[simp] theorem State.materialized_op : (s.materialized c op k).op = op := rfl
@[simp] theorem State.materialized_codec : (s.materialized c op k).codec = k := rfl

@[simp] theorem illegalRecord_len (n : Nat) : (illegalRecord n).len = n := rfl
@[simp] theorem illegalRecord_op (n : Nat) : (illegalRecord n).op = .illegal := rfl
@[simp] theorem illegalRecord_catalog (n : Nat) : (illegalRecord n).catalog = .base := rfl
@[simp] theorem illegalRecord_codec (n : Nat) : (illegalRecord n).codec = .none := rfl
@[simp] theorem illegalRecord_toOperands (n : Nat) : (illegalRecord n).toOperands = {} := rfl

end Sys2Proof.Machine
end

