-- ==== Sys2Proof/Laws/Ops.lean ====
section
/-! SUPPORT. Laws/Ops.lean: what each shared operation can do, said once. -/

namespace Sys2Proof.Machine

/-- The expander leaves the record, makes it illegal, or renames it to its target (R208 to R210). -/
theorem expand_cases (x : Xlen) (r : DecodedRecord) :
    expand x r = r ∨
    (∃ i t, r.op = .std i ∧ i.length = 2 ∧ i.target x = some t ∧ i.descriptor.nonzeroImm = true ∧ r.imm = 0 ∧
      expand x r = illegalRecord r.len) ∨
    (∃ i t, r.op = .std i ∧ i.length = 2 ∧ i.target x = some t ∧ ¬(i.descriptor.nonzeroImm = true ∧ r.imm = 0) ∧
      expand x r = { r with op := .std t, codec := t.codec }) := by
  rcases hop : r.op with _ | i | n
  · exact .inl (by simp [expand, hop])
  · by_cases hlen : i.length = 2
    · rcases ht : i.target x with _ | t
      · exact .inl (by simp [expand, hop, hlen, ht])
      · by_cases hnz : i.descriptor.nonzeroImm = true ∧ r.imm = 0
        · exact .inr (.inl ⟨i, t, rfl, hlen, ht, hnz.1, hnz.2, by simp [expand, hop, hlen, ht, hnz]⟩)
        · exact .inr (.inr ⟨i, t, rfl, hlen, ht, hnz, by
            simpa [expand, hop, hlen, ht] using fun flag zero => absurd ⟨flag, zero⟩ hnz⟩)
    · exact .inl (by simp [expand, hop, hlen])
  · exact .inl (by simp [expand, hop])

/-- The lifter leaves the record, or renames a base opcode by a rule of its list (R211). -/
theorem lift_cases (r : DecodedRecord) :
    lift r = r ∨
    (∃ i p, r.catalog = .base ∧ r.op = .std i ∧ i.descriptor.pseudo.find? (PseudoRule.holds r.toOperands) = some p ∧
      lift r = { r with op := .std p.op, codec := p.op.codec }) := by
  rcases hc : r.catalog with _ | _ | _ <;> rcases hop : r.op with _ | i | n
  case base.std =>
    rcases hf : i.descriptor.pseudo.find? (PseudoRule.holds r.toOperands) with _ | p
    · exact .inl (by simp [lift, hc, hop, hf])
    · exact .inr ⟨i, p, rfl, rfl, hf, by simp [lift, hc, hop, hf]⟩
  all_goals exact .inl (by simp [lift, hc, hop])

/-- The expander keeps the record's length. -/
@[simp] theorem expand_len (x : Xlen) (r : DecodedRecord) : (expand x r).len = r.len := by
  rcases expand_cases x r with h | ⟨_, _, _, _, _, _, _, h⟩ | ⟨_, _, _, _, _, _, h⟩ <;> rw [h]
  rfl

/-- The lifter keeps the record's length. -/
@[simp] theorem lift_len (r : DecodedRecord) : (lift r).len = r.len := by
  rcases lift_cases r with h | ⟨_, _, _, _, _, h⟩ <;> rw [h]

/-- The lifter keeps every operand field (R211). -/
@[simp] theorem lift_toOperands (r : DecodedRecord) : (lift r).toOperands = r.toOperands := by
  rcases lift_cases r with h | ⟨_, _, _, _, _, h⟩ <;> rw [h]

/-- The first unit of the window is the caller's next unit (R30). -/
@[simp] theorem win_u0 (s : State) : s.win.u0 = s.unitAt 0 := rfl

/-- The second unit of the window is the one after it (R30). -/
@[simp] theorem win_u1 (s : State) : s.win.u1 = s.unitAt 1 := rfl

/-- The length is the first unit's class (R62). -/
theorem instLen_eq (s : State) : s.instLen = fetchLen (s.unitAt 0) := rfl

/-- A 16-bit instruction word is the first unit (R64). -/
theorem inst_of_len_two {s : State} (h : s.instLen = 2) : s.inst = (s.unitAt 0).setWidth 32 := by
  simp [State.inst, instWord, h]

/-- A 32-bit instruction word is the second unit above the first (R64). -/
theorem inst_of_len_four {s : State} (h : s.instLen = 4) : s.inst = s.unitAt 1 ++ s.unitAt 0 := by
  simp [State.inst, instWord, h]

end Sys2Proof.Machine
end

