-- ==== Sys2Proof/Laws/Exec.lean ====
section
/-! SUPPORT. Laws/Exec.lean: every opcode's meaning as one equation, by cases on the opcode. -/

namespace Sys2Proof.Machine

/-- Each opcode's meaning drives the record of that opcode with its descriptor's codec (R200, R206). -/
theorem exec_eq_emit (i : Instr) (s : State) : exec i s = emit i i.codec s := by
  cases i <;> rfl

end Sys2Proof.Machine
end

