-- ==== Sys2Proof/Laws/PerInstr.lean ====
section
/-! SUPPORT. Laws/PerInstr.lean: the family DescriptorCoherent: the contents of each opcode's descriptor fit together, one
lemma per opcode. -/

namespace Sys2Proof.Laws.DescriptorCoherent

/-- A pseudo-opcode has its canonical opcode's codec, length and catalog (R211, 48_pseudo.md); every rule of the opcode's list
gives a pseudo-opcode of this opcode, which has no list of its own (R212); only a base opcode has a list (R211); a 16-bit
opcode is of the base catalog and has no list, and each of its targets is a 32-bit base opcode (R112, R208); a 32-bit opcode
has no target and no nonzero-immediate flag (R110). -/
def Statement (i : Instr) : Prop :=
  i.canonical.codec = i.codec ∧ i.canonical.length = i.length ∧ i.canonical.catalog = i.catalog ∧
  i.canonical.canonical = i.canonical ∧
  (∀ p ∈ i.descriptor.pseudo,
    p.op.canonical = i ∧ p.op.codec = i.codec ∧ p.op.length = i.length ∧ p.op.catalog = .base ∧
    p.op.descriptor.pseudo = []) ∧
  (i.descriptor.pseudo ≠ [] → i.catalog = .base ∧ i.length = 4) ∧
  (i.length = 2 ∧ i.catalog = .base ∨
    i.length = 4 ∧ i.descriptor.target32 = none ∧ i.descriptor.target64 = none ∧ i.descriptor.target128 = none ∧
      i.descriptor.nonzeroImm = false) ∧
  (∀ t ∈ i.descriptor.target32.toList ++ i.descriptor.target64.toList ++ i.descriptor.target128.toList,
    t.length = 4 ∧ t.catalog = .base ∧ t.canonical = t)

theorem lui : Statement .lui := by unfold Statement; decide
theorem auipc : Statement .auipc := by unfold Statement; decide
theorem jal : Statement .jal := by unfold Statement; decide
theorem jalr : Statement .jalr := by unfold Statement; decide
theorem beq : Statement .beq := by unfold Statement; decide
theorem bne : Statement .bne := by unfold Statement; decide
theorem blt : Statement .blt := by unfold Statement; decide
theorem bge : Statement .bge := by unfold Statement; decide
theorem bltu : Statement .bltu := by unfold Statement; decide
theorem bgeu : Statement .bgeu := by unfold Statement; decide
theorem lb : Statement .lb := by unfold Statement; decide
theorem lh : Statement .lh := by unfold Statement; decide
theorem lw : Statement .lw := by unfold Statement; decide
theorem ld : Statement .ld := by unfold Statement; decide
theorem lbu : Statement .lbu := by unfold Statement; decide
theorem lhu : Statement .lhu := by unfold Statement; decide
theorem lwu : Statement .lwu := by unfold Statement; decide
theorem ldu : Statement .ldu := by unfold Statement; decide
theorem sb : Statement .sb := by unfold Statement; decide
theorem sh : Statement .sh := by unfold Statement; decide
theorem sw : Statement .sw := by unfold Statement; decide
theorem sd : Statement .sd := by unfold Statement; decide
theorem sq : Statement .sq := by unfold Statement; decide
theorem addi : Statement .addi := by unfold Statement; decide
theorem slti : Statement .slti := by unfold Statement; decide
theorem sltiu : Statement .sltiu := by unfold Statement; decide
theorem xori : Statement .xori := by unfold Statement; decide
theorem ori : Statement .ori := by unfold Statement; decide
theorem andi : Statement .andi := by unfold Statement; decide
theorem slli : Statement .slli := by unfold Statement; decide
theorem srli : Statement .srli := by unfold Statement; decide
theorem srai : Statement .srai := by unfold Statement; decide
theorem add : Statement .add := by unfold Statement; decide
theorem sub : Statement .sub := by unfold Statement; decide
theorem sll : Statement .sll := by unfold Statement; decide
theorem slt : Statement .slt := by unfold Statement; decide
theorem sltu : Statement .sltu := by unfold Statement; decide
theorem xor : Statement .xor := by unfold Statement; decide
theorem srl : Statement .srl := by unfold Statement; decide
theorem sra : Statement .sra := by unfold Statement; decide
theorem or : Statement .or := by unfold Statement; decide
theorem and : Statement .and := by unfold Statement; decide
theorem fence : Statement .fence := by unfold Statement; decide
theorem fenceI : Statement .fenceI := by unfold Statement; decide
theorem ecall : Statement .ecall := by unfold Statement; decide
theorem ebreak : Statement .ebreak := by unfold Statement; decide
theorem addiw : Statement .addiw := by unfold Statement; decide
theorem slliw : Statement .slliw := by unfold Statement; decide
theorem srliw : Statement .srliw := by unfold Statement; decide
theorem sraiw : Statement .sraiw := by unfold Statement; decide
theorem addw : Statement .addw := by unfold Statement; decide
theorem subw : Statement .subw := by unfold Statement; decide
theorem sllw : Statement .sllw := by unfold Statement; decide
theorem srlw : Statement .srlw := by unfold Statement; decide
theorem sraw : Statement .sraw := by unfold Statement; decide
theorem lq : Statement .lq := by unfold Statement; decide
theorem addid : Statement .addid := by unfold Statement; decide
theorem sllid : Statement .sllid := by unfold Statement; decide
theorem srlid : Statement .srlid := by unfold Statement; decide
theorem sraid : Statement .sraid := by unfold Statement; decide
theorem addd : Statement .addd := by unfold Statement; decide
theorem subd : Statement .subd := by unfold Statement; decide
theorem slld : Statement .slld := by unfold Statement; decide
theorem srld : Statement .srld := by unfold Statement; decide
theorem srad : Statement .srad := by unfold Statement; decide
theorem mul : Statement .mul := by unfold Statement; decide
theorem mulh : Statement .mulh := by unfold Statement; decide
theorem mulhsu : Statement .mulhsu := by unfold Statement; decide
theorem mulhu : Statement .mulhu := by unfold Statement; decide
theorem div : Statement .div := by unfold Statement; decide
theorem divu : Statement .divu := by unfold Statement; decide
theorem rem : Statement .rem := by unfold Statement; decide
theorem remu : Statement .remu := by unfold Statement; decide
theorem mulw : Statement .mulw := by unfold Statement; decide
theorem divw : Statement .divw := by unfold Statement; decide
theorem divuw : Statement .divuw := by unfold Statement; decide
theorem remw : Statement .remw := by unfold Statement; decide
theorem remuw : Statement .remuw := by unfold Statement; decide
theorem muld : Statement .muld := by unfold Statement; decide
theorem divd : Statement .divd := by unfold Statement; decide
theorem divud : Statement .divud := by unfold Statement; decide
theorem remd : Statement .remd := by unfold Statement; decide
theorem remud : Statement .remud := by unfold Statement; decide
theorem lrW : Statement .lrW := by unfold Statement; decide
theorem scW : Statement .scW := by unfold Statement; decide
theorem amoaddW : Statement .amoaddW := by unfold Statement; decide
theorem amoswapW : Statement .amoswapW := by unfold Statement; decide
theorem amoxorW : Statement .amoxorW := by unfold Statement; decide
theorem amoorW : Statement .amoorW := by unfold Statement; decide
theorem amoandW : Statement .amoandW := by unfold Statement; decide
theorem amominW : Statement .amominW := by unfold Statement; decide
theorem amomaxW : Statement .amomaxW := by unfold Statement; decide
theorem amominuW : Statement .amominuW := by unfold Statement; decide
theorem amomaxuW : Statement .amomaxuW := by unfold Statement; decide
theorem lrD : Statement .lrD := by unfold Statement; decide
theorem scD : Statement .scD := by unfold Statement; decide
theorem amoaddD : Statement .amoaddD := by unfold Statement; decide
theorem amoswapD : Statement .amoswapD := by unfold Statement; decide
theorem amoxorD : Statement .amoxorD := by unfold Statement; decide
theorem amoorD : Statement .amoorD := by unfold Statement; decide
theorem amoandD : Statement .amoandD := by unfold Statement; decide
theorem amominD : Statement .amominD := by unfold Statement; decide
theorem amomaxD : Statement .amomaxD := by unfold Statement; decide
theorem amominuD : Statement .amominuD := by unfold Statement; decide
theorem amomaxuD : Statement .amomaxuD := by unfold Statement; decide
theorem lrQ : Statement .lrQ := by unfold Statement; decide
theorem scQ : Statement .scQ := by unfold Statement; decide
theorem amoaddQ : Statement .amoaddQ := by unfold Statement; decide
theorem amoswapQ : Statement .amoswapQ := by unfold Statement; decide
theorem amoxorQ : Statement .amoxorQ := by unfold Statement; decide
theorem amoorQ : Statement .amoorQ := by unfold Statement; decide
theorem amoandQ : Statement .amoandQ := by unfold Statement; decide
theorem amominQ : Statement .amominQ := by unfold Statement; decide
theorem amomaxQ : Statement .amomaxQ := by unfold Statement; decide
theorem amominuQ : Statement .amominuQ := by unfold Statement; decide
theorem amomaxuQ : Statement .amomaxuQ := by unfold Statement; decide
theorem csrrw : Statement .csrrw := by unfold Statement; decide
theorem csrrs : Statement .csrrs := by unfold Statement; decide
theorem csrrc : Statement .csrrc := by unfold Statement; decide
theorem csrrwi : Statement .csrrwi := by unfold Statement; decide
theorem csrrsi : Statement .csrrsi := by unfold Statement; decide
theorem csrrci : Statement .csrrci := by unfold Statement; decide
theorem uret : Statement .uret := by unfold Statement; decide
theorem sret : Statement .sret := by unfold Statement; decide
theorem mret : Statement .mret := by unfold Statement; decide
theorem dret : Statement .dret := by unfold Statement; decide
theorem wfi : Statement .wfi := by unfold Statement; decide
theorem sfenceWInval : Statement .sfenceWInval := by unfold Statement; decide
theorem sfenceInvalIr : Statement .sfenceInvalIr := by unfold Statement; decide
theorem sfenceVma : Statement .sfenceVma := by unfold Statement; decide
theorem sinvalVma : Statement .sinvalVma := by unfold Statement; decide
theorem hfenceVvma : Statement .hfenceVvma := by unfold Statement; decide
theorem hfenceGvma : Statement .hfenceGvma := by unfold Statement; decide
theorem hinvalVvma : Statement .hinvalVvma := by unfold Statement; decide
theorem hinvalGvma : Statement .hinvalGvma := by unfold Statement; decide
theorem hlvB : Statement .hlvB := by unfold Statement; decide
theorem hlvBu : Statement .hlvBu := by unfold Statement; decide
theorem hlvH : Statement .hlvH := by unfold Statement; decide
theorem hlvHu : Statement .hlvHu := by unfold Statement; decide
theorem hlvxHu : Statement .hlvxHu := by unfold Statement; decide
theorem hlvW : Statement .hlvW := by unfold Statement; decide
theorem hlvxWu : Statement .hlvxWu := by unfold Statement; decide
theorem hlvWu : Statement .hlvWu := by unfold Statement; decide
theorem hlvD : Statement .hlvD := by unfold Statement; decide
theorem hsvB : Statement .hsvB := by unfold Statement; decide
theorem hsvH : Statement .hsvH := by unfold Statement; decide
theorem hsvW : Statement .hsvW := by unfold Statement; decide
theorem hsvD : Statement .hsvD := by unfold Statement; decide
theorem cboInval : Statement .cboInval := by unfold Statement; decide
theorem cboClean : Statement .cboClean := by unfold Statement; decide
theorem cboFlush : Statement .cboFlush := by unfold Statement; decide
theorem cboZero : Statement .cboZero := by unfold Statement; decide
theorem flh : Statement .flh := by unfold Statement; decide
theorem flw : Statement .flw := by unfold Statement; decide
theorem fld : Statement .fld := by unfold Statement; decide
theorem flq : Statement .flq := by unfold Statement; decide
theorem fsh : Statement .fsh := by unfold Statement; decide
theorem fsw : Statement .fsw := by unfold Statement; decide
theorem fsd : Statement .fsd := by unfold Statement; decide
theorem fsq : Statement .fsq := by unfold Statement; decide
theorem fmaddS : Statement .fmaddS := by unfold Statement; decide
theorem fmsubS : Statement .fmsubS := by unfold Statement; decide
theorem fnmsubS : Statement .fnmsubS := by unfold Statement; decide
theorem fnmaddS : Statement .fnmaddS := by unfold Statement; decide
theorem faddS : Statement .faddS := by unfold Statement; decide
theorem fsubS : Statement .fsubS := by unfold Statement; decide
theorem fmulS : Statement .fmulS := by unfold Statement; decide
theorem fdivS : Statement .fdivS := by unfold Statement; decide
theorem fsqrtS : Statement .fsqrtS := by unfold Statement; decide
theorem fsgnjS : Statement .fsgnjS := by unfold Statement; decide
theorem fsgnjnS : Statement .fsgnjnS := by unfold Statement; decide
theorem fsgnjxS : Statement .fsgnjxS := by unfold Statement; decide
theorem fminS : Statement .fminS := by unfold Statement; decide
theorem fmaxS : Statement .fmaxS := by unfold Statement; decide
theorem fcvtSD : Statement .fcvtSD := by unfold Statement; decide
theorem fcvtSH : Statement .fcvtSH := by unfold Statement; decide
theorem fcvtSQ : Statement .fcvtSQ := by unfold Statement; decide
theorem feqS : Statement .feqS := by unfold Statement; decide
theorem fltS : Statement .fltS := by unfold Statement; decide
theorem fleS : Statement .fleS := by unfold Statement; decide
theorem fclassS : Statement .fclassS := by unfold Statement; decide
theorem fcvtWS : Statement .fcvtWS := by unfold Statement; decide
theorem fcvtSW : Statement .fcvtSW := by unfold Statement; decide
theorem fcvtWuS : Statement .fcvtWuS := by unfold Statement; decide
theorem fcvtSWu : Statement .fcvtSWu := by unfold Statement; decide
theorem fcvtLS : Statement .fcvtLS := by unfold Statement; decide
theorem fcvtSL : Statement .fcvtSL := by unfold Statement; decide
theorem fcvtLuS : Statement .fcvtLuS := by unfold Statement; decide
theorem fcvtSLu : Statement .fcvtSLu := by unfold Statement; decide
theorem fliS : Statement .fliS := by unfold Statement; decide
theorem fminmS : Statement .fminmS := by unfold Statement; decide
theorem fmaxmS : Statement .fmaxmS := by unfold Statement; decide
theorem froundS : Statement .froundS := by unfold Statement; decide
theorem froundnxS : Statement .froundnxS := by unfold Statement; decide
theorem fleqS : Statement .fleqS := by unfold Statement; decide
theorem fltqS : Statement .fltqS := by unfold Statement; decide
theorem fmaddD : Statement .fmaddD := by unfold Statement; decide
theorem fmsubD : Statement .fmsubD := by unfold Statement; decide
theorem fnmsubD : Statement .fnmsubD := by unfold Statement; decide
theorem fnmaddD : Statement .fnmaddD := by unfold Statement; decide
theorem faddD : Statement .faddD := by unfold Statement; decide
theorem fsubD : Statement .fsubD := by unfold Statement; decide
theorem fmulD : Statement .fmulD := by unfold Statement; decide
theorem fdivD : Statement .fdivD := by unfold Statement; decide
theorem fsqrtD : Statement .fsqrtD := by unfold Statement; decide
theorem fsgnjD : Statement .fsgnjD := by unfold Statement; decide
theorem fsgnjnD : Statement .fsgnjnD := by unfold Statement; decide
theorem fsgnjxD : Statement .fsgnjxD := by unfold Statement; decide
theorem fminD : Statement .fminD := by unfold Statement; decide
theorem fmaxD : Statement .fmaxD := by unfold Statement; decide
theorem fcvtDS : Statement .fcvtDS := by unfold Statement; decide
theorem fcvtDH : Statement .fcvtDH := by unfold Statement; decide
theorem fcvtDQ : Statement .fcvtDQ := by unfold Statement; decide
theorem feqD : Statement .feqD := by unfold Statement; decide
theorem fltD : Statement .fltD := by unfold Statement; decide
theorem fleD : Statement .fleD := by unfold Statement; decide
theorem fclassD : Statement .fclassD := by unfold Statement; decide
theorem fcvtWD : Statement .fcvtWD := by unfold Statement; decide
theorem fcvtDW : Statement .fcvtDW := by unfold Statement; decide
theorem fcvtWuD : Statement .fcvtWuD := by unfold Statement; decide
theorem fcvtDWu : Statement .fcvtDWu := by unfold Statement; decide
theorem fcvtLD : Statement .fcvtLD := by unfold Statement; decide
theorem fcvtDL : Statement .fcvtDL := by unfold Statement; decide
theorem fcvtLuD : Statement .fcvtLuD := by unfold Statement; decide
theorem fcvtDLu : Statement .fcvtDLu := by unfold Statement; decide
theorem fliD : Statement .fliD := by unfold Statement; decide
theorem fminmD : Statement .fminmD := by unfold Statement; decide
theorem fmaxmD : Statement .fmaxmD := by unfold Statement; decide
theorem froundD : Statement .froundD := by unfold Statement; decide
theorem froundnxD : Statement .froundnxD := by unfold Statement; decide
theorem fleqD : Statement .fleqD := by unfold Statement; decide
theorem fltqD : Statement .fltqD := by unfold Statement; decide
theorem fmaddH : Statement .fmaddH := by unfold Statement; decide
theorem fmsubH : Statement .fmsubH := by unfold Statement; decide
theorem fnmsubH : Statement .fnmsubH := by unfold Statement; decide
theorem fnmaddH : Statement .fnmaddH := by unfold Statement; decide
theorem faddH : Statement .faddH := by unfold Statement; decide
theorem fsubH : Statement .fsubH := by unfold Statement; decide
theorem fmulH : Statement .fmulH := by unfold Statement; decide
theorem fdivH : Statement .fdivH := by unfold Statement; decide
theorem fsqrtH : Statement .fsqrtH := by unfold Statement; decide
theorem fsgnjH : Statement .fsgnjH := by unfold Statement; decide
theorem fsgnjnH : Statement .fsgnjnH := by unfold Statement; decide
theorem fsgnjxH : Statement .fsgnjxH := by unfold Statement; decide
theorem fminH : Statement .fminH := by unfold Statement; decide
theorem fmaxH : Statement .fmaxH := by unfold Statement; decide
theorem fcvtHS : Statement .fcvtHS := by unfold Statement; decide
theorem fcvtHD : Statement .fcvtHD := by unfold Statement; decide
theorem fcvtHQ : Statement .fcvtHQ := by unfold Statement; decide
theorem feqH : Statement .feqH := by unfold Statement; decide
theorem fltH : Statement .fltH := by unfold Statement; decide
theorem fleH : Statement .fleH := by unfold Statement; decide
theorem fclassH : Statement .fclassH := by unfold Statement; decide
theorem fcvtWH : Statement .fcvtWH := by unfold Statement; decide
theorem fcvtHW : Statement .fcvtHW := by unfold Statement; decide
theorem fcvtWuH : Statement .fcvtWuH := by unfold Statement; decide
theorem fcvtHWu : Statement .fcvtHWu := by unfold Statement; decide
theorem fcvtLH : Statement .fcvtLH := by unfold Statement; decide
theorem fcvtHL : Statement .fcvtHL := by unfold Statement; decide
theorem fcvtLuH : Statement .fcvtLuH := by unfold Statement; decide
theorem fcvtHLu : Statement .fcvtHLu := by unfold Statement; decide
theorem fliH : Statement .fliH := by unfold Statement; decide
theorem fminmH : Statement .fminmH := by unfold Statement; decide
theorem fmaxmH : Statement .fmaxmH := by unfold Statement; decide
theorem froundH : Statement .froundH := by unfold Statement; decide
theorem froundnxH : Statement .froundnxH := by unfold Statement; decide
theorem fleqH : Statement .fleqH := by unfold Statement; decide
theorem fltqH : Statement .fltqH := by unfold Statement; decide
theorem fmaddQ : Statement .fmaddQ := by unfold Statement; decide
theorem fmsubQ : Statement .fmsubQ := by unfold Statement; decide
theorem fnmsubQ : Statement .fnmsubQ := by unfold Statement; decide
theorem fnmaddQ : Statement .fnmaddQ := by unfold Statement; decide
theorem faddQ : Statement .faddQ := by unfold Statement; decide
theorem fsubQ : Statement .fsubQ := by unfold Statement; decide
theorem fmulQ : Statement .fmulQ := by unfold Statement; decide
theorem fdivQ : Statement .fdivQ := by unfold Statement; decide
theorem fsqrtQ : Statement .fsqrtQ := by unfold Statement; decide
theorem fsgnjQ : Statement .fsgnjQ := by unfold Statement; decide
theorem fsgnjnQ : Statement .fsgnjnQ := by unfold Statement; decide
theorem fsgnjxQ : Statement .fsgnjxQ := by unfold Statement; decide
theorem fminQ : Statement .fminQ := by unfold Statement; decide
theorem fmaxQ : Statement .fmaxQ := by unfold Statement; decide
theorem fcvtQS : Statement .fcvtQS := by unfold Statement; decide
theorem fcvtQD : Statement .fcvtQD := by unfold Statement; decide
theorem fcvtQH : Statement .fcvtQH := by unfold Statement; decide
theorem feqQ : Statement .feqQ := by unfold Statement; decide
theorem fltQ : Statement .fltQ := by unfold Statement; decide
theorem fleQ : Statement .fleQ := by unfold Statement; decide
theorem fclassQ : Statement .fclassQ := by unfold Statement; decide
theorem fcvtWQ : Statement .fcvtWQ := by unfold Statement; decide
theorem fcvtQW : Statement .fcvtQW := by unfold Statement; decide
theorem fcvtWuQ : Statement .fcvtWuQ := by unfold Statement; decide
theorem fcvtQWu : Statement .fcvtQWu := by unfold Statement; decide
theorem fcvtLQ : Statement .fcvtLQ := by unfold Statement; decide
theorem fcvtQL : Statement .fcvtQL := by unfold Statement; decide
theorem fcvtLuQ : Statement .fcvtLuQ := by unfold Statement; decide
theorem fcvtQLu : Statement .fcvtQLu := by unfold Statement; decide
theorem fliQ : Statement .fliQ := by unfold Statement; decide
theorem fminmQ : Statement .fminmQ := by unfold Statement; decide
theorem fmaxmQ : Statement .fmaxmQ := by unfold Statement; decide
theorem froundQ : Statement .froundQ := by unfold Statement; decide
theorem froundnxQ : Statement .froundnxQ := by unfold Statement; decide
theorem fleqQ : Statement .fleqQ := by unfold Statement; decide
theorem fltqQ : Statement .fltqQ := by unfold Statement; decide
theorem fmvXW : Statement .fmvXW := by unfold Statement; decide
theorem fmvXD : Statement .fmvXD := by unfold Statement; decide
theorem fmvXH : Statement .fmvXH := by unfold Statement; decide
theorem fmvWX : Statement .fmvWX := by unfold Statement; decide
theorem fmvDX : Statement .fmvDX := by unfold Statement; decide
theorem fmvHX : Statement .fmvHX := by unfold Statement; decide
theorem fcvtmodWD : Statement .fcvtmodWD := by unfold Statement; decide
theorem fmvhXD : Statement .fmvhXD := by unfold Statement; decide
theorem fmvpDX : Statement .fmvpDX := by unfold Statement; decide
theorem fmvhXQ : Statement .fmvhXQ := by unfold Statement; decide
theorem fmvpQX : Statement .fmvpQX := by unfold Statement; decide
theorem sh1add : Statement .sh1add := by unfold Statement; decide
theorem sh2add : Statement .sh2add := by unfold Statement; decide
theorem sh3add : Statement .sh3add := by unfold Statement; decide
theorem addUw : Statement .addUw := by unfold Statement; decide
theorem sh1addUw : Statement .sh1addUw := by unfold Statement; decide
theorem sh2addUw : Statement .sh2addUw := by unfold Statement; decide
theorem sh3addUw : Statement .sh3addUw := by unfold Statement; decide
theorem slliUw : Statement .slliUw := by unfold Statement; decide
theorem andn : Statement .andn := by unfold Statement; decide
theorem orn : Statement .orn := by unfold Statement; decide
theorem xnor : Statement .xnor := by unfold Statement; decide
theorem clz : Statement .clz := by unfold Statement; decide
theorem ctz : Statement .ctz := by unfold Statement; decide
theorem cpop : Statement .cpop := by unfold Statement; decide
theorem sextB : Statement .sextB := by unfold Statement; decide
theorem sextH : Statement .sextH := by unfold Statement; decide
theorem max : Statement .max := by unfold Statement; decide
theorem maxu : Statement .maxu := by unfold Statement; decide
theorem min : Statement .min := by unfold Statement; decide
theorem minu : Statement .minu := by unfold Statement; decide
theorem rol : Statement .rol := by unfold Statement; decide
theorem ror : Statement .ror := by unfold Statement; decide
theorem rori : Statement .rori := by unfold Statement; decide
theorem orcB : Statement .orcB := by unfold Statement; decide
theorem rev8 : Statement .rev8 := by unfold Statement; decide
theorem zextH : Statement .zextH := by unfold Statement; decide
theorem clzw : Statement .clzw := by unfold Statement; decide
theorem ctzw : Statement .ctzw := by unfold Statement; decide
theorem cpopw : Statement .cpopw := by unfold Statement; decide
theorem rolw : Statement .rolw := by unfold Statement; decide
theorem rorw : Statement .rorw := by unfold Statement; decide
theorem roriw : Statement .roriw := by unfold Statement; decide
theorem clmul : Statement .clmul := by unfold Statement; decide
theorem clmulr : Statement .clmulr := by unfold Statement; decide
theorem clmulh : Statement .clmulh := by unfold Statement; decide
theorem bclr : Statement .bclr := by unfold Statement; decide
theorem bext : Statement .bext := by unfold Statement; decide
theorem binv : Statement .binv := by unfold Statement; decide
theorem bset : Statement .bset := by unfold Statement; decide
theorem bclri : Statement .bclri := by unfold Statement; decide
theorem bexti : Statement .bexti := by unfold Statement; decide
theorem binvi : Statement .binvi := by unfold Statement; decide
theorem bseti : Statement .bseti := by unfold Statement; decide
theorem pack : Statement .pack := by unfold Statement; decide
theorem packh : Statement .packh := by unfold Statement; decide
theorem packw : Statement .packw := by unfold Statement; decide
theorem brev8 : Statement .brev8 := by unfold Statement; decide
theorem zip : Statement .zip := by unfold Statement; decide
theorem unzip : Statement .unzip := by unfold Statement; decide
theorem xperm4 : Statement .xperm4 := by unfold Statement; decide
theorem xperm8 : Statement .xperm8 := by unfold Statement; decide
theorem czeroEqz : Statement .czeroEqz := by unfold Statement; decide
theorem czeroNez : Statement .czeroNez := by unfold Statement; decide
theorem aes32esi : Statement .aes32esi := by unfold Statement; decide
theorem aes32esmi : Statement .aes32esmi := by unfold Statement; decide
theorem aes32dsi : Statement .aes32dsi := by unfold Statement; decide
theorem aes32dsmi : Statement .aes32dsmi := by unfold Statement; decide
theorem sm4ed : Statement .sm4ed := by unfold Statement; decide
theorem sm4ks : Statement .sm4ks := by unfold Statement; decide
theorem aes64es : Statement .aes64es := by unfold Statement; decide
theorem aes64esm : Statement .aes64esm := by unfold Statement; decide
theorem aes64ds : Statement .aes64ds := by unfold Statement; decide
theorem aes64dsm : Statement .aes64dsm := by unfold Statement; decide
theorem aes64ks2 : Statement .aes64ks2 := by unfold Statement; decide
theorem aes64im : Statement .aes64im := by unfold Statement; decide
theorem aes64ks1i : Statement .aes64ks1i := by unfold Statement; decide
theorem sha256sum0 : Statement .sha256sum0 := by unfold Statement; decide
theorem sha256sum1 : Statement .sha256sum1 := by unfold Statement; decide
theorem sha256sig0 : Statement .sha256sig0 := by unfold Statement; decide
theorem sha256sig1 : Statement .sha256sig1 := by unfold Statement; decide
theorem sha512sum0 : Statement .sha512sum0 := by unfold Statement; decide
theorem sha512sum1 : Statement .sha512sum1 := by unfold Statement; decide
theorem sha512sig0 : Statement .sha512sig0 := by unfold Statement; decide
theorem sha512sig1 : Statement .sha512sig1 := by unfold Statement; decide
theorem sha512sum0r : Statement .sha512sum0r := by unfold Statement; decide
theorem sha512sum1r : Statement .sha512sum1r := by unfold Statement; decide
theorem sha512sig0l : Statement .sha512sig0l := by unfold Statement; decide
theorem sha512sig1l : Statement .sha512sig1l := by unfold Statement; decide
theorem sha512sig0h : Statement .sha512sig0h := by unfold Statement; decide
theorem sha512sig1h : Statement .sha512sig1h := by unfold Statement; decide
theorem sm3p0 : Statement .sm3p0 := by unfold Statement; decide
theorem sm3p1 : Statement .sm3p1 := by unfold Statement; decide
theorem cAddi4spn : Statement .cAddi4spn := by unfold Statement; decide
theorem cFld : Statement .cFld := by unfold Statement; decide
theorem cLq : Statement .cLq := by unfold Statement; decide
theorem cLw : Statement .cLw := by unfold Statement; decide
theorem cFlw : Statement .cFlw := by unfold Statement; decide
theorem cLd : Statement .cLd := by unfold Statement; decide
theorem cLbu : Statement .cLbu := by unfold Statement; decide
theorem cLhu : Statement .cLhu := by unfold Statement; decide
theorem cLh : Statement .cLh := by unfold Statement; decide
theorem cSb : Statement .cSb := by unfold Statement; decide
theorem cSh : Statement .cSh := by unfold Statement; decide
theorem cFsd : Statement .cFsd := by unfold Statement; decide
theorem cSq : Statement .cSq := by unfold Statement; decide
theorem cSw : Statement .cSw := by unfold Statement; decide
theorem cFsw : Statement .cFsw := by unfold Statement; decide
theorem cSd : Statement .cSd := by unfold Statement; decide
theorem cNop : Statement .cNop := by unfold Statement; decide
theorem cAddi : Statement .cAddi := by unfold Statement; decide
theorem cJal : Statement .cJal := by unfold Statement; decide
theorem cAddiw : Statement .cAddiw := by unfold Statement; decide
theorem cLi : Statement .cLi := by unfold Statement; decide
theorem cAddi16sp : Statement .cAddi16sp := by unfold Statement; decide
theorem cLui : Statement .cLui := by unfold Statement; decide
theorem cSrli : Statement .cSrli := by unfold Statement; decide
theorem cSrai : Statement .cSrai := by unfold Statement; decide
theorem cAndi : Statement .cAndi := by unfold Statement; decide
theorem cSub : Statement .cSub := by unfold Statement; decide
theorem cXor : Statement .cXor := by unfold Statement; decide
theorem cOr : Statement .cOr := by unfold Statement; decide
theorem cAnd : Statement .cAnd := by unfold Statement; decide
theorem cSubw : Statement .cSubw := by unfold Statement; decide
theorem cAddw : Statement .cAddw := by unfold Statement; decide
theorem cMul : Statement .cMul := by unfold Statement; decide
theorem cZextB : Statement .cZextB := by unfold Statement; decide
theorem cSextB : Statement .cSextB := by unfold Statement; decide
theorem cZextH : Statement .cZextH := by unfold Statement; decide
theorem cSextH : Statement .cSextH := by unfold Statement; decide
theorem cZextW : Statement .cZextW := by unfold Statement; decide
theorem cNot : Statement .cNot := by unfold Statement; decide
theorem cJ : Statement .cJ := by unfold Statement; decide
theorem cBeqz : Statement .cBeqz := by unfold Statement; decide
theorem cBnez : Statement .cBnez := by unfold Statement; decide
theorem cSlli : Statement .cSlli := by unfold Statement; decide
theorem cFldsp : Statement .cFldsp := by unfold Statement; decide
theorem cLqsp : Statement .cLqsp := by unfold Statement; decide
theorem cLwsp : Statement .cLwsp := by unfold Statement; decide
theorem cFlwsp : Statement .cFlwsp := by unfold Statement; decide
theorem cLdsp : Statement .cLdsp := by unfold Statement; decide
theorem cJr : Statement .cJr := by unfold Statement; decide
theorem cMv : Statement .cMv := by unfold Statement; decide
theorem cEbreak : Statement .cEbreak := by unfold Statement; decide
theorem cJalr : Statement .cJalr := by unfold Statement; decide
theorem cAdd : Statement .cAdd := by unfold Statement; decide
theorem cFsdsp : Statement .cFsdsp := by unfold Statement; decide
theorem cSqsp : Statement .cSqsp := by unfold Statement; decide
theorem cSwsp : Statement .cSwsp := by unfold Statement; decide
theorem cFswsp : Statement .cFswsp := by unfold Statement; decide
theorem cSdsp : Statement .cSdsp := by unfold Statement; decide
theorem cmPush : Statement .cmPush := by unfold Statement; decide
theorem cmPop : Statement .cmPop := by unfold Statement; decide
theorem cmPopretz : Statement .cmPopretz := by unfold Statement; decide
theorem cmPopret : Statement .cmPopret := by unfold Statement; decide
theorem cmMvsa01 : Statement .cmMvsa01 := by unfold Statement; decide
theorem cmMva01s : Statement .cmMva01s := by unfold Statement; decide
theorem cmJt : Statement .cmJt := by unfold Statement; decide
theorem cmJalt : Statement .cmJalt := by unfold Statement; decide
theorem vsetvli : Statement .vsetvli := by unfold Statement; decide
theorem vsetivli : Statement .vsetivli := by unfold Statement; decide
theorem vsetvl : Statement .vsetvl := by unfold Statement; decide
theorem vaddVv : Statement .vaddVv := by unfold Statement; decide
theorem vaddVx : Statement .vaddVx := by unfold Statement; decide
theorem vaddVi : Statement .vaddVi := by unfold Statement; decide
theorem vsubVv : Statement .vsubVv := by unfold Statement; decide
theorem vsubVx : Statement .vsubVx := by unfold Statement; decide
theorem vrsubVx : Statement .vrsubVx := by unfold Statement; decide
theorem vrsubVi : Statement .vrsubVi := by unfold Statement; decide
theorem vminuVv : Statement .vminuVv := by unfold Statement; decide
theorem vminuVx : Statement .vminuVx := by unfold Statement; decide
theorem vminVv : Statement .vminVv := by unfold Statement; decide
theorem vminVx : Statement .vminVx := by unfold Statement; decide
theorem vmaxuVv : Statement .vmaxuVv := by unfold Statement; decide
theorem vmaxuVx : Statement .vmaxuVx := by unfold Statement; decide
theorem vmaxVv : Statement .vmaxVv := by unfold Statement; decide
theorem vmaxVx : Statement .vmaxVx := by unfold Statement; decide
theorem vandVv : Statement .vandVv := by unfold Statement; decide
theorem vandVx : Statement .vandVx := by unfold Statement; decide
theorem vandVi : Statement .vandVi := by unfold Statement; decide
theorem vorVv : Statement .vorVv := by unfold Statement; decide
theorem vorVx : Statement .vorVx := by unfold Statement; decide
theorem vorVi : Statement .vorVi := by unfold Statement; decide
theorem vxorVv : Statement .vxorVv := by unfold Statement; decide
theorem vxorVx : Statement .vxorVx := by unfold Statement; decide
theorem vxorVi : Statement .vxorVi := by unfold Statement; decide
theorem vrgatherVv : Statement .vrgatherVv := by unfold Statement; decide
theorem vrgatherVx : Statement .vrgatherVx := by unfold Statement; decide
theorem vrgatherVi : Statement .vrgatherVi := by unfold Statement; decide
theorem vslidedownVx : Statement .vslidedownVx := by unfold Statement; decide
theorem vslidedownVi : Statement .vslidedownVi := by unfold Statement; decide
theorem vmseqVv : Statement .vmseqVv := by unfold Statement; decide
theorem vmseqVx : Statement .vmseqVx := by unfold Statement; decide
theorem vmseqVi : Statement .vmseqVi := by unfold Statement; decide
theorem vmsneVv : Statement .vmsneVv := by unfold Statement; decide
theorem vmsneVx : Statement .vmsneVx := by unfold Statement; decide
theorem vmsneVi : Statement .vmsneVi := by unfold Statement; decide
theorem vmsltuVv : Statement .vmsltuVv := by unfold Statement; decide
theorem vmsltuVx : Statement .vmsltuVx := by unfold Statement; decide
theorem vmsltVv : Statement .vmsltVv := by unfold Statement; decide
theorem vmsltVx : Statement .vmsltVx := by unfold Statement; decide
theorem vmsleuVv : Statement .vmsleuVv := by unfold Statement; decide
theorem vmsleuVx : Statement .vmsleuVx := by unfold Statement; decide
theorem vmsleuVi : Statement .vmsleuVi := by unfold Statement; decide
theorem vmsleVv : Statement .vmsleVv := by unfold Statement; decide
theorem vmsleVx : Statement .vmsleVx := by unfold Statement; decide
theorem vmsleVi : Statement .vmsleVi := by unfold Statement; decide
theorem vmsgtuVx : Statement .vmsgtuVx := by unfold Statement; decide
theorem vmsgtuVi : Statement .vmsgtuVi := by unfold Statement; decide
theorem vmsgtVx : Statement .vmsgtVx := by unfold Statement; decide
theorem vmsgtVi : Statement .vmsgtVi := by unfold Statement; decide
theorem vsadduVv : Statement .vsadduVv := by unfold Statement; decide
theorem vsadduVx : Statement .vsadduVx := by unfold Statement; decide
theorem vsadduVi : Statement .vsadduVi := by unfold Statement; decide
theorem vsaddVv : Statement .vsaddVv := by unfold Statement; decide
theorem vsaddVx : Statement .vsaddVx := by unfold Statement; decide
theorem vsaddVi : Statement .vsaddVi := by unfold Statement; decide
theorem vssubuVv : Statement .vssubuVv := by unfold Statement; decide
theorem vssubuVx : Statement .vssubuVx := by unfold Statement; decide
theorem vssubVv : Statement .vssubVv := by unfold Statement; decide
theorem vssubVx : Statement .vssubVx := by unfold Statement; decide
theorem vsllVv : Statement .vsllVv := by unfold Statement; decide
theorem vsllVx : Statement .vsllVx := by unfold Statement; decide
theorem vsllVi : Statement .vsllVi := by unfold Statement; decide
theorem vsmulVv : Statement .vsmulVv := by unfold Statement; decide
theorem vsmulVx : Statement .vsmulVx := by unfold Statement; decide
theorem vsrlVv : Statement .vsrlVv := by unfold Statement; decide
theorem vsrlVx : Statement .vsrlVx := by unfold Statement; decide
theorem vsrlVi : Statement .vsrlVi := by unfold Statement; decide
theorem vsraVv : Statement .vsraVv := by unfold Statement; decide
theorem vsraVx : Statement .vsraVx := by unfold Statement; decide
theorem vsraVi : Statement .vsraVi := by unfold Statement; decide
theorem vssrlVv : Statement .vssrlVv := by unfold Statement; decide
theorem vssrlVx : Statement .vssrlVx := by unfold Statement; decide
theorem vssrlVi : Statement .vssrlVi := by unfold Statement; decide
theorem vssraVv : Statement .vssraVv := by unfold Statement; decide
theorem vssraVx : Statement .vssraVx := by unfold Statement; decide
theorem vssraVi : Statement .vssraVi := by unfold Statement; decide
theorem vnsrlWv : Statement .vnsrlWv := by unfold Statement; decide
theorem vnsrlWx : Statement .vnsrlWx := by unfold Statement; decide
theorem vnsrlWi : Statement .vnsrlWi := by unfold Statement; decide
theorem vnsraWv : Statement .vnsraWv := by unfold Statement; decide
theorem vnsraWx : Statement .vnsraWx := by unfold Statement; decide
theorem vnsraWi : Statement .vnsraWi := by unfold Statement; decide
theorem vnclipuWv : Statement .vnclipuWv := by unfold Statement; decide
theorem vnclipuWx : Statement .vnclipuWx := by unfold Statement; decide
theorem vnclipuWi : Statement .vnclipuWi := by unfold Statement; decide
theorem vnclipWv : Statement .vnclipWv := by unfold Statement; decide
theorem vnclipWx : Statement .vnclipWx := by unfold Statement; decide
theorem vnclipWi : Statement .vnclipWi := by unfold Statement; decide
theorem vrgatherei16Vv : Statement .vrgatherei16Vv := by unfold Statement; decide
theorem vslideupVx : Statement .vslideupVx := by unfold Statement; decide
theorem vslideupVi : Statement .vslideupVi := by unfold Statement; decide
theorem vadcVvm : Statement .vadcVvm := by unfold Statement; decide
theorem vadcVxm : Statement .vadcVxm := by unfold Statement; decide
theorem vadcVim : Statement .vadcVim := by unfold Statement; decide
theorem vmadcVvm : Statement .vmadcVvm := by unfold Statement; decide
theorem vmadcVxm : Statement .vmadcVxm := by unfold Statement; decide
theorem vmadcVim : Statement .vmadcVim := by unfold Statement; decide
theorem vmadcVv : Statement .vmadcVv := by unfold Statement; decide
theorem vmadcVx : Statement .vmadcVx := by unfold Statement; decide
theorem vmadcVi : Statement .vmadcVi := by unfold Statement; decide
theorem vsbcVvm : Statement .vsbcVvm := by unfold Statement; decide
theorem vsbcVxm : Statement .vsbcVxm := by unfold Statement; decide
theorem vmsbcVvm : Statement .vmsbcVvm := by unfold Statement; decide
theorem vmsbcVxm : Statement .vmsbcVxm := by unfold Statement; decide
theorem vmsbcVv : Statement .vmsbcVv := by unfold Statement; decide
theorem vmsbcVx : Statement .vmsbcVx := by unfold Statement; decide
theorem vmergeVvm : Statement .vmergeVvm := by unfold Statement; decide
theorem vmergeVxm : Statement .vmergeVxm := by unfold Statement; decide
theorem vmergeVim : Statement .vmergeVim := by unfold Statement; decide
theorem vmvVV : Statement .vmvVV := by unfold Statement; decide
theorem vmvVX : Statement .vmvVX := by unfold Statement; decide
theorem vmvVI : Statement .vmvVI := by unfold Statement; decide
theorem vmv1rV : Statement .vmv1rV := by unfold Statement; decide
theorem vmv2rV : Statement .vmv2rV := by unfold Statement; decide
theorem vmv4rV : Statement .vmv4rV := by unfold Statement; decide
theorem vmv8rV : Statement .vmv8rV := by unfold Statement; decide
theorem vwredsumuVs : Statement .vwredsumuVs := by unfold Statement; decide
theorem vwredsumVs : Statement .vwredsumVs := by unfold Statement; decide
theorem vredsumVs : Statement .vredsumVs := by unfold Statement; decide
theorem vredandVs : Statement .vredandVs := by unfold Statement; decide
theorem vredorVs : Statement .vredorVs := by unfold Statement; decide
theorem vredxorVs : Statement .vredxorVs := by unfold Statement; decide
theorem vredminuVs : Statement .vredminuVs := by unfold Statement; decide
theorem vredminVs : Statement .vredminVs := by unfold Statement; decide
theorem vredmaxuVs : Statement .vredmaxuVs := by unfold Statement; decide
theorem vredmaxVs : Statement .vredmaxVs := by unfold Statement; decide
theorem vaadduVv : Statement .vaadduVv := by unfold Statement; decide
theorem vaadduVx : Statement .vaadduVx := by unfold Statement; decide
theorem vaaddVv : Statement .vaaddVv := by unfold Statement; decide
theorem vaaddVx : Statement .vaaddVx := by unfold Statement; decide
theorem vasubuVv : Statement .vasubuVv := by unfold Statement; decide
theorem vasubuVx : Statement .vasubuVx := by unfold Statement; decide
theorem vasubVv : Statement .vasubVv := by unfold Statement; decide
theorem vasubVx : Statement .vasubVx := by unfold Statement; decide
theorem vdivuVv : Statement .vdivuVv := by unfold Statement; decide
theorem vdivuVx : Statement .vdivuVx := by unfold Statement; decide
theorem vdivVv : Statement .vdivVv := by unfold Statement; decide
theorem vdivVx : Statement .vdivVx := by unfold Statement; decide
theorem vremuVv : Statement .vremuVv := by unfold Statement; decide
theorem vremuVx : Statement .vremuVx := by unfold Statement; decide
theorem vremVv : Statement .vremVv := by unfold Statement; decide
theorem vremVx : Statement .vremVx := by unfold Statement; decide
theorem vmulhuVv : Statement .vmulhuVv := by unfold Statement; decide
theorem vmulhuVx : Statement .vmulhuVx := by unfold Statement; decide
theorem vmulVv : Statement .vmulVv := by unfold Statement; decide
theorem vmulVx : Statement .vmulVx := by unfold Statement; decide
theorem vmulhsuVv : Statement .vmulhsuVv := by unfold Statement; decide
theorem vmulhsuVx : Statement .vmulhsuVx := by unfold Statement; decide
theorem vmulhVv : Statement .vmulhVv := by unfold Statement; decide
theorem vmulhVx : Statement .vmulhVx := by unfold Statement; decide
theorem vmaddVv : Statement .vmaddVv := by unfold Statement; decide
theorem vmaddVx : Statement .vmaddVx := by unfold Statement; decide
theorem vnmsubVv : Statement .vnmsubVv := by unfold Statement; decide
theorem vnmsubVx : Statement .vnmsubVx := by unfold Statement; decide
theorem vmaccVv : Statement .vmaccVv := by unfold Statement; decide
theorem vmaccVx : Statement .vmaccVx := by unfold Statement; decide
theorem vnmsacVv : Statement .vnmsacVv := by unfold Statement; decide
theorem vnmsacVx : Statement .vnmsacVx := by unfold Statement; decide
theorem vwadduVv : Statement .vwadduVv := by unfold Statement; decide
theorem vwadduVx : Statement .vwadduVx := by unfold Statement; decide
theorem vwaddVv : Statement .vwaddVv := by unfold Statement; decide
theorem vwaddVx : Statement .vwaddVx := by unfold Statement; decide
theorem vwsubuVv : Statement .vwsubuVv := by unfold Statement; decide
theorem vwsubuVx : Statement .vwsubuVx := by unfold Statement; decide
theorem vwsubVv : Statement .vwsubVv := by unfold Statement; decide
theorem vwsubVx : Statement .vwsubVx := by unfold Statement; decide
theorem vwmuluVv : Statement .vwmuluVv := by unfold Statement; decide
theorem vwmuluVx : Statement .vwmuluVx := by unfold Statement; decide
theorem vwmulsuVv : Statement .vwmulsuVv := by unfold Statement; decide
theorem vwmulsuVx : Statement .vwmulsuVx := by unfold Statement; decide
theorem vwmulVv : Statement .vwmulVv := by unfold Statement; decide
theorem vwmulVx : Statement .vwmulVx := by unfold Statement; decide
theorem vwmaccuVv : Statement .vwmaccuVv := by unfold Statement; decide
theorem vwmaccuVx : Statement .vwmaccuVx := by unfold Statement; decide
theorem vwmaccVv : Statement .vwmaccVv := by unfold Statement; decide
theorem vwmaccVx : Statement .vwmaccVx := by unfold Statement; decide
theorem vwmaccusVx : Statement .vwmaccusVx := by unfold Statement; decide
theorem vwmaccsuVv : Statement .vwmaccsuVv := by unfold Statement; decide
theorem vwmaccsuVx : Statement .vwmaccsuVx := by unfold Statement; decide
theorem vwadduWv : Statement .vwadduWv := by unfold Statement; decide
theorem vwadduWx : Statement .vwadduWx := by unfold Statement; decide
theorem vwaddWv : Statement .vwaddWv := by unfold Statement; decide
theorem vwaddWx : Statement .vwaddWx := by unfold Statement; decide
theorem vwsubuWv : Statement .vwsubuWv := by unfold Statement; decide
theorem vwsubuWx : Statement .vwsubuWx := by unfold Statement; decide
theorem vwsubWv : Statement .vwsubWv := by unfold Statement; decide
theorem vwsubWx : Statement .vwsubWx := by unfold Statement; decide
theorem vslide1upVx : Statement .vslide1upVx := by unfold Statement; decide
theorem vslide1downVx : Statement .vslide1downVx := by unfold Statement; decide
theorem vmvXS : Statement .vmvXS := by unfold Statement; decide
theorem vcpopM : Statement .vcpopM := by unfold Statement; decide
theorem vfirstM : Statement .vfirstM := by unfold Statement; decide
theorem vmvSX : Statement .vmvSX := by unfold Statement; decide
theorem vzextVf8 : Statement .vzextVf8 := by unfold Statement; decide
theorem vsextVf8 : Statement .vsextVf8 := by unfold Statement; decide
theorem vzextVf4 : Statement .vzextVf4 := by unfold Statement; decide
theorem vsextVf4 : Statement .vsextVf4 := by unfold Statement; decide
theorem vzextVf2 : Statement .vzextVf2 := by unfold Statement; decide
theorem vsextVf2 : Statement .vsextVf2 := by unfold Statement; decide
theorem vmsbfM : Statement .vmsbfM := by unfold Statement; decide
theorem vmsofM : Statement .vmsofM := by unfold Statement; decide
theorem vmsifM : Statement .vmsifM := by unfold Statement; decide
theorem viotaM : Statement .viotaM := by unfold Statement; decide
theorem vidV : Statement .vidV := by unfold Statement; decide
theorem vcompressVm : Statement .vcompressVm := by unfold Statement; decide
theorem vmandnMm : Statement .vmandnMm := by unfold Statement; decide
theorem vmandMm : Statement .vmandMm := by unfold Statement; decide
theorem vmorMm : Statement .vmorMm := by unfold Statement; decide
theorem vmxorMm : Statement .vmxorMm := by unfold Statement; decide
theorem vmornMm : Statement .vmornMm := by unfold Statement; decide
theorem vmnandMm : Statement .vmnandMm := by unfold Statement; decide
theorem vmnorMm : Statement .vmnorMm := by unfold Statement; decide
theorem vmxnorMm : Statement .vmxnorMm := by unfold Statement; decide
theorem vfaddVv : Statement .vfaddVv := by unfold Statement; decide
theorem vfaddVf : Statement .vfaddVf := by unfold Statement; decide
theorem vfsubVv : Statement .vfsubVv := by unfold Statement; decide
theorem vfsubVf : Statement .vfsubVf := by unfold Statement; decide
theorem vfminVv : Statement .vfminVv := by unfold Statement; decide
theorem vfminVf : Statement .vfminVf := by unfold Statement; decide
theorem vfmaxVv : Statement .vfmaxVv := by unfold Statement; decide
theorem vfmaxVf : Statement .vfmaxVf := by unfold Statement; decide
theorem vfsgnjVv : Statement .vfsgnjVv := by unfold Statement; decide
theorem vfsgnjVf : Statement .vfsgnjVf := by unfold Statement; decide
theorem vfsgnjnVv : Statement .vfsgnjnVv := by unfold Statement; decide
theorem vfsgnjnVf : Statement .vfsgnjnVf := by unfold Statement; decide
theorem vfsgnjxVv : Statement .vfsgnjxVv := by unfold Statement; decide
theorem vfsgnjxVf : Statement .vfsgnjxVf := by unfold Statement; decide
theorem vfslide1upVf : Statement .vfslide1upVf := by unfold Statement; decide
theorem vfslide1downVf : Statement .vfslide1downVf := by unfold Statement; decide
theorem vmfeqVv : Statement .vmfeqVv := by unfold Statement; decide
theorem vmfeqVf : Statement .vmfeqVf := by unfold Statement; decide
theorem vmfleVv : Statement .vmfleVv := by unfold Statement; decide
theorem vmfleVf : Statement .vmfleVf := by unfold Statement; decide
theorem vmfltVv : Statement .vmfltVv := by unfold Statement; decide
theorem vmfltVf : Statement .vmfltVf := by unfold Statement; decide
theorem vmfneVv : Statement .vmfneVv := by unfold Statement; decide
theorem vmfneVf : Statement .vmfneVf := by unfold Statement; decide
theorem vmfgtVf : Statement .vmfgtVf := by unfold Statement; decide
theorem vmfgeVf : Statement .vmfgeVf := by unfold Statement; decide
theorem vfdivVv : Statement .vfdivVv := by unfold Statement; decide
theorem vfdivVf : Statement .vfdivVf := by unfold Statement; decide
theorem vfrdivVf : Statement .vfrdivVf := by unfold Statement; decide
theorem vfmulVv : Statement .vfmulVv := by unfold Statement; decide
theorem vfmulVf : Statement .vfmulVf := by unfold Statement; decide
theorem vfrsubVf : Statement .vfrsubVf := by unfold Statement; decide
theorem vfmaddVv : Statement .vfmaddVv := by unfold Statement; decide
theorem vfmaddVf : Statement .vfmaddVf := by unfold Statement; decide
theorem vfnmaddVv : Statement .vfnmaddVv := by unfold Statement; decide
theorem vfnmaddVf : Statement .vfnmaddVf := by unfold Statement; decide
theorem vfmsubVv : Statement .vfmsubVv := by unfold Statement; decide
theorem vfmsubVf : Statement .vfmsubVf := by unfold Statement; decide
theorem vfnmsubVv : Statement .vfnmsubVv := by unfold Statement; decide
theorem vfnmsubVf : Statement .vfnmsubVf := by unfold Statement; decide
theorem vfmaccVv : Statement .vfmaccVv := by unfold Statement; decide
theorem vfmaccVf : Statement .vfmaccVf := by unfold Statement; decide
theorem vfnmaccVv : Statement .vfnmaccVv := by unfold Statement; decide
theorem vfnmaccVf : Statement .vfnmaccVf := by unfold Statement; decide
theorem vfmsacVv : Statement .vfmsacVv := by unfold Statement; decide
theorem vfmsacVf : Statement .vfmsacVf := by unfold Statement; decide
theorem vfnmsacVv : Statement .vfnmsacVv := by unfold Statement; decide
theorem vfnmsacVf : Statement .vfnmsacVf := by unfold Statement; decide
theorem vfwaddVv : Statement .vfwaddVv := by unfold Statement; decide
theorem vfwaddVf : Statement .vfwaddVf := by unfold Statement; decide
theorem vfwsubVv : Statement .vfwsubVv := by unfold Statement; decide
theorem vfwsubVf : Statement .vfwsubVf := by unfold Statement; decide
theorem vfwmulVv : Statement .vfwmulVv := by unfold Statement; decide
theorem vfwmulVf : Statement .vfwmulVf := by unfold Statement; decide
theorem vfwmaccVv : Statement .vfwmaccVv := by unfold Statement; decide
theorem vfwmaccVf : Statement .vfwmaccVf := by unfold Statement; decide
theorem vfwnmaccVv : Statement .vfwnmaccVv := by unfold Statement; decide
theorem vfwnmaccVf : Statement .vfwnmaccVf := by unfold Statement; decide
theorem vfwmsacVv : Statement .vfwmsacVv := by unfold Statement; decide
theorem vfwmsacVf : Statement .vfwmsacVf := by unfold Statement; decide
theorem vfwnmsacVv : Statement .vfwnmsacVv := by unfold Statement; decide
theorem vfwnmsacVf : Statement .vfwnmsacVf := by unfold Statement; decide
theorem vfredusumVs : Statement .vfredusumVs := by unfold Statement; decide
theorem vfredosumVs : Statement .vfredosumVs := by unfold Statement; decide
theorem vfredminVs : Statement .vfredminVs := by unfold Statement; decide
theorem vfredmaxVs : Statement .vfredmaxVs := by unfold Statement; decide
theorem vfwredusumVs : Statement .vfwredusumVs := by unfold Statement; decide
theorem vfwredosumVs : Statement .vfwredosumVs := by unfold Statement; decide
theorem vfwaddWv : Statement .vfwaddWv := by unfold Statement; decide
theorem vfwaddWf : Statement .vfwaddWf := by unfold Statement; decide
theorem vfwsubWv : Statement .vfwsubWv := by unfold Statement; decide
theorem vfwsubWf : Statement .vfwsubWf := by unfold Statement; decide
theorem vfmvFS : Statement .vfmvFS := by unfold Statement; decide
theorem vfmvSF : Statement .vfmvSF := by unfold Statement; decide
theorem vfcvtXuFV : Statement .vfcvtXuFV := by unfold Statement; decide
theorem vfcvtXFV : Statement .vfcvtXFV := by unfold Statement; decide
theorem vfcvtFXuV : Statement .vfcvtFXuV := by unfold Statement; decide
theorem vfcvtFXV : Statement .vfcvtFXV := by unfold Statement; decide
theorem vfcvtRtzXuFV : Statement .vfcvtRtzXuFV := by unfold Statement; decide
theorem vfcvtRtzXFV : Statement .vfcvtRtzXFV := by unfold Statement; decide
theorem vfwcvtXuFV : Statement .vfwcvtXuFV := by unfold Statement; decide
theorem vfwcvtXFV : Statement .vfwcvtXFV := by unfold Statement; decide
theorem vfwcvtFXuV : Statement .vfwcvtFXuV := by unfold Statement; decide
theorem vfwcvtFXV : Statement .vfwcvtFXV := by unfold Statement; decide
theorem vfwcvtFFV : Statement .vfwcvtFFV := by unfold Statement; decide
theorem vfwcvtRtzXuFV : Statement .vfwcvtRtzXuFV := by unfold Statement; decide
theorem vfwcvtRtzXFV : Statement .vfwcvtRtzXFV := by unfold Statement; decide
theorem vfncvtXuFW : Statement .vfncvtXuFW := by unfold Statement; decide
theorem vfncvtXFW : Statement .vfncvtXFW := by unfold Statement; decide
theorem vfncvtFXuW : Statement .vfncvtFXuW := by unfold Statement; decide
theorem vfncvtFXW : Statement .vfncvtFXW := by unfold Statement; decide
theorem vfncvtFFW : Statement .vfncvtFFW := by unfold Statement; decide
theorem vfncvtRodFFW : Statement .vfncvtRodFFW := by unfold Statement; decide
theorem vfncvtRtzXuFW : Statement .vfncvtRtzXuFW := by unfold Statement; decide
theorem vfncvtRtzXFW : Statement .vfncvtRtzXFW := by unfold Statement; decide
theorem vfsqrtV : Statement .vfsqrtV := by unfold Statement; decide
theorem vfrsqrt7V : Statement .vfrsqrt7V := by unfold Statement; decide
theorem vfrec7V : Statement .vfrec7V := by unfold Statement; decide
theorem vfclassV : Statement .vfclassV := by unfold Statement; decide
theorem vfmergeVfm : Statement .vfmergeVfm := by unfold Statement; decide
theorem vfmvVF : Statement .vfmvVF := by unfold Statement; decide
theorem vle8V : Statement .vle8V := by unfold Statement; decide
theorem vle8ffV : Statement .vle8ffV := by unfold Statement; decide
theorem vse8V : Statement .vse8V := by unfold Statement; decide
theorem vlse8V : Statement .vlse8V := by unfold Statement; decide
theorem vsse8V : Statement .vsse8V := by unfold Statement; decide
theorem vluxei8V : Statement .vluxei8V := by unfold Statement; decide
theorem vsuxei8V : Statement .vsuxei8V := by unfold Statement; decide
theorem vloxei8V : Statement .vloxei8V := by unfold Statement; decide
theorem vsoxei8V : Statement .vsoxei8V := by unfold Statement; decide
theorem vlseg2e8V : Statement .vlseg2e8V := by unfold Statement; decide
theorem vlseg2e8ffV : Statement .vlseg2e8ffV := by unfold Statement; decide
theorem vsseg2e8V : Statement .vsseg2e8V := by unfold Statement; decide
theorem vlsseg2e8V : Statement .vlsseg2e8V := by unfold Statement; decide
theorem vssseg2e8V : Statement .vssseg2e8V := by unfold Statement; decide
theorem vluxseg2ei8V : Statement .vluxseg2ei8V := by unfold Statement; decide
theorem vsuxseg2ei8V : Statement .vsuxseg2ei8V := by unfold Statement; decide
theorem vloxseg2ei8V : Statement .vloxseg2ei8V := by unfold Statement; decide
theorem vsoxseg2ei8V : Statement .vsoxseg2ei8V := by unfold Statement; decide
theorem vlseg3e8V : Statement .vlseg3e8V := by unfold Statement; decide
theorem vlseg3e8ffV : Statement .vlseg3e8ffV := by unfold Statement; decide
theorem vsseg3e8V : Statement .vsseg3e8V := by unfold Statement; decide
theorem vlsseg3e8V : Statement .vlsseg3e8V := by unfold Statement; decide
theorem vssseg3e8V : Statement .vssseg3e8V := by unfold Statement; decide
theorem vluxseg3ei8V : Statement .vluxseg3ei8V := by unfold Statement; decide
theorem vsuxseg3ei8V : Statement .vsuxseg3ei8V := by unfold Statement; decide
theorem vloxseg3ei8V : Statement .vloxseg3ei8V := by unfold Statement; decide
theorem vsoxseg3ei8V : Statement .vsoxseg3ei8V := by unfold Statement; decide
theorem vlseg4e8V : Statement .vlseg4e8V := by unfold Statement; decide
theorem vlseg4e8ffV : Statement .vlseg4e8ffV := by unfold Statement; decide
theorem vsseg4e8V : Statement .vsseg4e8V := by unfold Statement; decide
theorem vlsseg4e8V : Statement .vlsseg4e8V := by unfold Statement; decide
theorem vssseg4e8V : Statement .vssseg4e8V := by unfold Statement; decide
theorem vluxseg4ei8V : Statement .vluxseg4ei8V := by unfold Statement; decide
theorem vsuxseg4ei8V : Statement .vsuxseg4ei8V := by unfold Statement; decide
theorem vloxseg4ei8V : Statement .vloxseg4ei8V := by unfold Statement; decide
theorem vsoxseg4ei8V : Statement .vsoxseg4ei8V := by unfold Statement; decide
theorem vlseg5e8V : Statement .vlseg5e8V := by unfold Statement; decide
theorem vlseg5e8ffV : Statement .vlseg5e8ffV := by unfold Statement; decide
theorem vsseg5e8V : Statement .vsseg5e8V := by unfold Statement; decide
theorem vlsseg5e8V : Statement .vlsseg5e8V := by unfold Statement; decide
theorem vssseg5e8V : Statement .vssseg5e8V := by unfold Statement; decide
theorem vluxseg5ei8V : Statement .vluxseg5ei8V := by unfold Statement; decide
theorem vsuxseg5ei8V : Statement .vsuxseg5ei8V := by unfold Statement; decide
theorem vloxseg5ei8V : Statement .vloxseg5ei8V := by unfold Statement; decide
theorem vsoxseg5ei8V : Statement .vsoxseg5ei8V := by unfold Statement; decide
theorem vlseg6e8V : Statement .vlseg6e8V := by unfold Statement; decide
theorem vlseg6e8ffV : Statement .vlseg6e8ffV := by unfold Statement; decide
theorem vsseg6e8V : Statement .vsseg6e8V := by unfold Statement; decide
theorem vlsseg6e8V : Statement .vlsseg6e8V := by unfold Statement; decide
theorem vssseg6e8V : Statement .vssseg6e8V := by unfold Statement; decide
theorem vluxseg6ei8V : Statement .vluxseg6ei8V := by unfold Statement; decide
theorem vsuxseg6ei8V : Statement .vsuxseg6ei8V := by unfold Statement; decide
theorem vloxseg6ei8V : Statement .vloxseg6ei8V := by unfold Statement; decide
theorem vsoxseg6ei8V : Statement .vsoxseg6ei8V := by unfold Statement; decide
theorem vlseg7e8V : Statement .vlseg7e8V := by unfold Statement; decide
theorem vlseg7e8ffV : Statement .vlseg7e8ffV := by unfold Statement; decide
theorem vsseg7e8V : Statement .vsseg7e8V := by unfold Statement; decide
theorem vlsseg7e8V : Statement .vlsseg7e8V := by unfold Statement; decide
theorem vssseg7e8V : Statement .vssseg7e8V := by unfold Statement; decide
theorem vluxseg7ei8V : Statement .vluxseg7ei8V := by unfold Statement; decide
theorem vsuxseg7ei8V : Statement .vsuxseg7ei8V := by unfold Statement; decide
theorem vloxseg7ei8V : Statement .vloxseg7ei8V := by unfold Statement; decide
theorem vsoxseg7ei8V : Statement .vsoxseg7ei8V := by unfold Statement; decide
theorem vlseg8e8V : Statement .vlseg8e8V := by unfold Statement; decide
theorem vlseg8e8ffV : Statement .vlseg8e8ffV := by unfold Statement; decide
theorem vsseg8e8V : Statement .vsseg8e8V := by unfold Statement; decide
theorem vlsseg8e8V : Statement .vlsseg8e8V := by unfold Statement; decide
theorem vssseg8e8V : Statement .vssseg8e8V := by unfold Statement; decide
theorem vluxseg8ei8V : Statement .vluxseg8ei8V := by unfold Statement; decide
theorem vsuxseg8ei8V : Statement .vsuxseg8ei8V := by unfold Statement; decide
theorem vloxseg8ei8V : Statement .vloxseg8ei8V := by unfold Statement; decide
theorem vsoxseg8ei8V : Statement .vsoxseg8ei8V := by unfold Statement; decide
theorem vl1re8V : Statement .vl1re8V := by unfold Statement; decide
theorem vl2re8V : Statement .vl2re8V := by unfold Statement; decide
theorem vl4re8V : Statement .vl4re8V := by unfold Statement; decide
theorem vl8re8V : Statement .vl8re8V := by unfold Statement; decide
theorem vle16V : Statement .vle16V := by unfold Statement; decide
theorem vle16ffV : Statement .vle16ffV := by unfold Statement; decide
theorem vse16V : Statement .vse16V := by unfold Statement; decide
theorem vlse16V : Statement .vlse16V := by unfold Statement; decide
theorem vsse16V : Statement .vsse16V := by unfold Statement; decide
theorem vluxei16V : Statement .vluxei16V := by unfold Statement; decide
theorem vsuxei16V : Statement .vsuxei16V := by unfold Statement; decide
theorem vloxei16V : Statement .vloxei16V := by unfold Statement; decide
theorem vsoxei16V : Statement .vsoxei16V := by unfold Statement; decide
theorem vlseg2e16V : Statement .vlseg2e16V := by unfold Statement; decide
theorem vlseg2e16ffV : Statement .vlseg2e16ffV := by unfold Statement; decide
theorem vsseg2e16V : Statement .vsseg2e16V := by unfold Statement; decide
theorem vlsseg2e16V : Statement .vlsseg2e16V := by unfold Statement; decide
theorem vssseg2e16V : Statement .vssseg2e16V := by unfold Statement; decide
theorem vluxseg2ei16V : Statement .vluxseg2ei16V := by unfold Statement; decide
theorem vsuxseg2ei16V : Statement .vsuxseg2ei16V := by unfold Statement; decide
theorem vloxseg2ei16V : Statement .vloxseg2ei16V := by unfold Statement; decide
theorem vsoxseg2ei16V : Statement .vsoxseg2ei16V := by unfold Statement; decide
theorem vlseg3e16V : Statement .vlseg3e16V := by unfold Statement; decide
theorem vlseg3e16ffV : Statement .vlseg3e16ffV := by unfold Statement; decide
theorem vsseg3e16V : Statement .vsseg3e16V := by unfold Statement; decide
theorem vlsseg3e16V : Statement .vlsseg3e16V := by unfold Statement; decide
theorem vssseg3e16V : Statement .vssseg3e16V := by unfold Statement; decide
theorem vluxseg3ei16V : Statement .vluxseg3ei16V := by unfold Statement; decide
theorem vsuxseg3ei16V : Statement .vsuxseg3ei16V := by unfold Statement; decide
theorem vloxseg3ei16V : Statement .vloxseg3ei16V := by unfold Statement; decide
theorem vsoxseg3ei16V : Statement .vsoxseg3ei16V := by unfold Statement; decide
theorem vlseg4e16V : Statement .vlseg4e16V := by unfold Statement; decide
theorem vlseg4e16ffV : Statement .vlseg4e16ffV := by unfold Statement; decide
theorem vsseg4e16V : Statement .vsseg4e16V := by unfold Statement; decide
theorem vlsseg4e16V : Statement .vlsseg4e16V := by unfold Statement; decide
theorem vssseg4e16V : Statement .vssseg4e16V := by unfold Statement; decide
theorem vluxseg4ei16V : Statement .vluxseg4ei16V := by unfold Statement; decide
theorem vsuxseg4ei16V : Statement .vsuxseg4ei16V := by unfold Statement; decide
theorem vloxseg4ei16V : Statement .vloxseg4ei16V := by unfold Statement; decide
theorem vsoxseg4ei16V : Statement .vsoxseg4ei16V := by unfold Statement; decide
theorem vlseg5e16V : Statement .vlseg5e16V := by unfold Statement; decide
theorem vlseg5e16ffV : Statement .vlseg5e16ffV := by unfold Statement; decide
theorem vsseg5e16V : Statement .vsseg5e16V := by unfold Statement; decide
theorem vlsseg5e16V : Statement .vlsseg5e16V := by unfold Statement; decide
theorem vssseg5e16V : Statement .vssseg5e16V := by unfold Statement; decide
theorem vluxseg5ei16V : Statement .vluxseg5ei16V := by unfold Statement; decide
theorem vsuxseg5ei16V : Statement .vsuxseg5ei16V := by unfold Statement; decide
theorem vloxseg5ei16V : Statement .vloxseg5ei16V := by unfold Statement; decide
theorem vsoxseg5ei16V : Statement .vsoxseg5ei16V := by unfold Statement; decide
theorem vlseg6e16V : Statement .vlseg6e16V := by unfold Statement; decide
theorem vlseg6e16ffV : Statement .vlseg6e16ffV := by unfold Statement; decide
theorem vsseg6e16V : Statement .vsseg6e16V := by unfold Statement; decide
theorem vlsseg6e16V : Statement .vlsseg6e16V := by unfold Statement; decide
theorem vssseg6e16V : Statement .vssseg6e16V := by unfold Statement; decide
theorem vluxseg6ei16V : Statement .vluxseg6ei16V := by unfold Statement; decide
theorem vsuxseg6ei16V : Statement .vsuxseg6ei16V := by unfold Statement; decide
theorem vloxseg6ei16V : Statement .vloxseg6ei16V := by unfold Statement; decide
theorem vsoxseg6ei16V : Statement .vsoxseg6ei16V := by unfold Statement; decide
theorem vlseg7e16V : Statement .vlseg7e16V := by unfold Statement; decide
theorem vlseg7e16ffV : Statement .vlseg7e16ffV := by unfold Statement; decide
theorem vsseg7e16V : Statement .vsseg7e16V := by unfold Statement; decide
theorem vlsseg7e16V : Statement .vlsseg7e16V := by unfold Statement; decide
theorem vssseg7e16V : Statement .vssseg7e16V := by unfold Statement; decide
theorem vluxseg7ei16V : Statement .vluxseg7ei16V := by unfold Statement; decide
theorem vsuxseg7ei16V : Statement .vsuxseg7ei16V := by unfold Statement; decide
theorem vloxseg7ei16V : Statement .vloxseg7ei16V := by unfold Statement; decide
theorem vsoxseg7ei16V : Statement .vsoxseg7ei16V := by unfold Statement; decide
theorem vlseg8e16V : Statement .vlseg8e16V := by unfold Statement; decide
theorem vlseg8e16ffV : Statement .vlseg8e16ffV := by unfold Statement; decide
theorem vsseg8e16V : Statement .vsseg8e16V := by unfold Statement; decide
theorem vlsseg8e16V : Statement .vlsseg8e16V := by unfold Statement; decide
theorem vssseg8e16V : Statement .vssseg8e16V := by unfold Statement; decide
theorem vluxseg8ei16V : Statement .vluxseg8ei16V := by unfold Statement; decide
theorem vsuxseg8ei16V : Statement .vsuxseg8ei16V := by unfold Statement; decide
theorem vloxseg8ei16V : Statement .vloxseg8ei16V := by unfold Statement; decide
theorem vsoxseg8ei16V : Statement .vsoxseg8ei16V := by unfold Statement; decide
theorem vl1re16V : Statement .vl1re16V := by unfold Statement; decide
theorem vl2re16V : Statement .vl2re16V := by unfold Statement; decide
theorem vl4re16V : Statement .vl4re16V := by unfold Statement; decide
theorem vl8re16V : Statement .vl8re16V := by unfold Statement; decide
theorem vle32V : Statement .vle32V := by unfold Statement; decide
theorem vle32ffV : Statement .vle32ffV := by unfold Statement; decide
theorem vse32V : Statement .vse32V := by unfold Statement; decide
theorem vlse32V : Statement .vlse32V := by unfold Statement; decide
theorem vsse32V : Statement .vsse32V := by unfold Statement; decide
theorem vluxei32V : Statement .vluxei32V := by unfold Statement; decide
theorem vsuxei32V : Statement .vsuxei32V := by unfold Statement; decide
theorem vloxei32V : Statement .vloxei32V := by unfold Statement; decide
theorem vsoxei32V : Statement .vsoxei32V := by unfold Statement; decide
theorem vlseg2e32V : Statement .vlseg2e32V := by unfold Statement; decide
theorem vlseg2e32ffV : Statement .vlseg2e32ffV := by unfold Statement; decide
theorem vsseg2e32V : Statement .vsseg2e32V := by unfold Statement; decide
theorem vlsseg2e32V : Statement .vlsseg2e32V := by unfold Statement; decide
theorem vssseg2e32V : Statement .vssseg2e32V := by unfold Statement; decide
theorem vluxseg2ei32V : Statement .vluxseg2ei32V := by unfold Statement; decide
theorem vsuxseg2ei32V : Statement .vsuxseg2ei32V := by unfold Statement; decide
theorem vloxseg2ei32V : Statement .vloxseg2ei32V := by unfold Statement; decide
theorem vsoxseg2ei32V : Statement .vsoxseg2ei32V := by unfold Statement; decide
theorem vlseg3e32V : Statement .vlseg3e32V := by unfold Statement; decide
theorem vlseg3e32ffV : Statement .vlseg3e32ffV := by unfold Statement; decide
theorem vsseg3e32V : Statement .vsseg3e32V := by unfold Statement; decide
theorem vlsseg3e32V : Statement .vlsseg3e32V := by unfold Statement; decide
theorem vssseg3e32V : Statement .vssseg3e32V := by unfold Statement; decide
theorem vluxseg3ei32V : Statement .vluxseg3ei32V := by unfold Statement; decide
theorem vsuxseg3ei32V : Statement .vsuxseg3ei32V := by unfold Statement; decide
theorem vloxseg3ei32V : Statement .vloxseg3ei32V := by unfold Statement; decide
theorem vsoxseg3ei32V : Statement .vsoxseg3ei32V := by unfold Statement; decide
theorem vlseg4e32V : Statement .vlseg4e32V := by unfold Statement; decide
theorem vlseg4e32ffV : Statement .vlseg4e32ffV := by unfold Statement; decide
theorem vsseg4e32V : Statement .vsseg4e32V := by unfold Statement; decide
theorem vlsseg4e32V : Statement .vlsseg4e32V := by unfold Statement; decide
theorem vssseg4e32V : Statement .vssseg4e32V := by unfold Statement; decide
theorem vluxseg4ei32V : Statement .vluxseg4ei32V := by unfold Statement; decide
theorem vsuxseg4ei32V : Statement .vsuxseg4ei32V := by unfold Statement; decide
theorem vloxseg4ei32V : Statement .vloxseg4ei32V := by unfold Statement; decide
theorem vsoxseg4ei32V : Statement .vsoxseg4ei32V := by unfold Statement; decide
theorem vlseg5e32V : Statement .vlseg5e32V := by unfold Statement; decide
theorem vlseg5e32ffV : Statement .vlseg5e32ffV := by unfold Statement; decide
theorem vsseg5e32V : Statement .vsseg5e32V := by unfold Statement; decide
theorem vlsseg5e32V : Statement .vlsseg5e32V := by unfold Statement; decide
theorem vssseg5e32V : Statement .vssseg5e32V := by unfold Statement; decide
theorem vluxseg5ei32V : Statement .vluxseg5ei32V := by unfold Statement; decide
theorem vsuxseg5ei32V : Statement .vsuxseg5ei32V := by unfold Statement; decide
theorem vloxseg5ei32V : Statement .vloxseg5ei32V := by unfold Statement; decide
theorem vsoxseg5ei32V : Statement .vsoxseg5ei32V := by unfold Statement; decide
theorem vlseg6e32V : Statement .vlseg6e32V := by unfold Statement; decide
theorem vlseg6e32ffV : Statement .vlseg6e32ffV := by unfold Statement; decide
theorem vsseg6e32V : Statement .vsseg6e32V := by unfold Statement; decide
theorem vlsseg6e32V : Statement .vlsseg6e32V := by unfold Statement; decide
theorem vssseg6e32V : Statement .vssseg6e32V := by unfold Statement; decide
theorem vluxseg6ei32V : Statement .vluxseg6ei32V := by unfold Statement; decide
theorem vsuxseg6ei32V : Statement .vsuxseg6ei32V := by unfold Statement; decide
theorem vloxseg6ei32V : Statement .vloxseg6ei32V := by unfold Statement; decide
theorem vsoxseg6ei32V : Statement .vsoxseg6ei32V := by unfold Statement; decide
theorem vlseg7e32V : Statement .vlseg7e32V := by unfold Statement; decide
theorem vlseg7e32ffV : Statement .vlseg7e32ffV := by unfold Statement; decide
theorem vsseg7e32V : Statement .vsseg7e32V := by unfold Statement; decide
theorem vlsseg7e32V : Statement .vlsseg7e32V := by unfold Statement; decide
theorem vssseg7e32V : Statement .vssseg7e32V := by unfold Statement; decide
theorem vluxseg7ei32V : Statement .vluxseg7ei32V := by unfold Statement; decide
theorem vsuxseg7ei32V : Statement .vsuxseg7ei32V := by unfold Statement; decide
theorem vloxseg7ei32V : Statement .vloxseg7ei32V := by unfold Statement; decide
theorem vsoxseg7ei32V : Statement .vsoxseg7ei32V := by unfold Statement; decide
theorem vlseg8e32V : Statement .vlseg8e32V := by unfold Statement; decide
theorem vlseg8e32ffV : Statement .vlseg8e32ffV := by unfold Statement; decide
theorem vsseg8e32V : Statement .vsseg8e32V := by unfold Statement; decide
theorem vlsseg8e32V : Statement .vlsseg8e32V := by unfold Statement; decide
theorem vssseg8e32V : Statement .vssseg8e32V := by unfold Statement; decide
theorem vluxseg8ei32V : Statement .vluxseg8ei32V := by unfold Statement; decide
theorem vsuxseg8ei32V : Statement .vsuxseg8ei32V := by unfold Statement; decide
theorem vloxseg8ei32V : Statement .vloxseg8ei32V := by unfold Statement; decide
theorem vsoxseg8ei32V : Statement .vsoxseg8ei32V := by unfold Statement; decide
theorem vl1re32V : Statement .vl1re32V := by unfold Statement; decide
theorem vl2re32V : Statement .vl2re32V := by unfold Statement; decide
theorem vl4re32V : Statement .vl4re32V := by unfold Statement; decide
theorem vl8re32V : Statement .vl8re32V := by unfold Statement; decide
theorem vle64V : Statement .vle64V := by unfold Statement; decide
theorem vle64ffV : Statement .vle64ffV := by unfold Statement; decide
theorem vse64V : Statement .vse64V := by unfold Statement; decide
theorem vlse64V : Statement .vlse64V := by unfold Statement; decide
theorem vsse64V : Statement .vsse64V := by unfold Statement; decide
theorem vluxei64V : Statement .vluxei64V := by unfold Statement; decide
theorem vsuxei64V : Statement .vsuxei64V := by unfold Statement; decide
theorem vloxei64V : Statement .vloxei64V := by unfold Statement; decide
theorem vsoxei64V : Statement .vsoxei64V := by unfold Statement; decide
theorem vlseg2e64V : Statement .vlseg2e64V := by unfold Statement; decide
theorem vlseg2e64ffV : Statement .vlseg2e64ffV := by unfold Statement; decide
theorem vsseg2e64V : Statement .vsseg2e64V := by unfold Statement; decide
theorem vlsseg2e64V : Statement .vlsseg2e64V := by unfold Statement; decide
theorem vssseg2e64V : Statement .vssseg2e64V := by unfold Statement; decide
theorem vluxseg2ei64V : Statement .vluxseg2ei64V := by unfold Statement; decide
theorem vsuxseg2ei64V : Statement .vsuxseg2ei64V := by unfold Statement; decide
theorem vloxseg2ei64V : Statement .vloxseg2ei64V := by unfold Statement; decide
theorem vsoxseg2ei64V : Statement .vsoxseg2ei64V := by unfold Statement; decide
theorem vlseg3e64V : Statement .vlseg3e64V := by unfold Statement; decide
theorem vlseg3e64ffV : Statement .vlseg3e64ffV := by unfold Statement; decide
theorem vsseg3e64V : Statement .vsseg3e64V := by unfold Statement; decide
theorem vlsseg3e64V : Statement .vlsseg3e64V := by unfold Statement; decide
theorem vssseg3e64V : Statement .vssseg3e64V := by unfold Statement; decide
theorem vluxseg3ei64V : Statement .vluxseg3ei64V := by unfold Statement; decide
theorem vsuxseg3ei64V : Statement .vsuxseg3ei64V := by unfold Statement; decide
theorem vloxseg3ei64V : Statement .vloxseg3ei64V := by unfold Statement; decide
theorem vsoxseg3ei64V : Statement .vsoxseg3ei64V := by unfold Statement; decide
theorem vlseg4e64V : Statement .vlseg4e64V := by unfold Statement; decide
theorem vlseg4e64ffV : Statement .vlseg4e64ffV := by unfold Statement; decide
theorem vsseg4e64V : Statement .vsseg4e64V := by unfold Statement; decide
theorem vlsseg4e64V : Statement .vlsseg4e64V := by unfold Statement; decide
theorem vssseg4e64V : Statement .vssseg4e64V := by unfold Statement; decide
theorem vluxseg4ei64V : Statement .vluxseg4ei64V := by unfold Statement; decide
theorem vsuxseg4ei64V : Statement .vsuxseg4ei64V := by unfold Statement; decide
theorem vloxseg4ei64V : Statement .vloxseg4ei64V := by unfold Statement; decide
theorem vsoxseg4ei64V : Statement .vsoxseg4ei64V := by unfold Statement; decide
theorem vlseg5e64V : Statement .vlseg5e64V := by unfold Statement; decide
theorem vlseg5e64ffV : Statement .vlseg5e64ffV := by unfold Statement; decide
theorem vsseg5e64V : Statement .vsseg5e64V := by unfold Statement; decide
theorem vlsseg5e64V : Statement .vlsseg5e64V := by unfold Statement; decide
theorem vssseg5e64V : Statement .vssseg5e64V := by unfold Statement; decide
theorem vluxseg5ei64V : Statement .vluxseg5ei64V := by unfold Statement; decide
theorem vsuxseg5ei64V : Statement .vsuxseg5ei64V := by unfold Statement; decide
theorem vloxseg5ei64V : Statement .vloxseg5ei64V := by unfold Statement; decide
theorem vsoxseg5ei64V : Statement .vsoxseg5ei64V := by unfold Statement; decide
theorem vlseg6e64V : Statement .vlseg6e64V := by unfold Statement; decide
theorem vlseg6e64ffV : Statement .vlseg6e64ffV := by unfold Statement; decide
theorem vsseg6e64V : Statement .vsseg6e64V := by unfold Statement; decide
theorem vlsseg6e64V : Statement .vlsseg6e64V := by unfold Statement; decide
theorem vssseg6e64V : Statement .vssseg6e64V := by unfold Statement; decide
theorem vluxseg6ei64V : Statement .vluxseg6ei64V := by unfold Statement; decide
theorem vsuxseg6ei64V : Statement .vsuxseg6ei64V := by unfold Statement; decide
theorem vloxseg6ei64V : Statement .vloxseg6ei64V := by unfold Statement; decide
theorem vsoxseg6ei64V : Statement .vsoxseg6ei64V := by unfold Statement; decide
theorem vlseg7e64V : Statement .vlseg7e64V := by unfold Statement; decide
theorem vlseg7e64ffV : Statement .vlseg7e64ffV := by unfold Statement; decide
theorem vsseg7e64V : Statement .vsseg7e64V := by unfold Statement; decide
theorem vlsseg7e64V : Statement .vlsseg7e64V := by unfold Statement; decide
theorem vssseg7e64V : Statement .vssseg7e64V := by unfold Statement; decide
theorem vluxseg7ei64V : Statement .vluxseg7ei64V := by unfold Statement; decide
theorem vsuxseg7ei64V : Statement .vsuxseg7ei64V := by unfold Statement; decide
theorem vloxseg7ei64V : Statement .vloxseg7ei64V := by unfold Statement; decide
theorem vsoxseg7ei64V : Statement .vsoxseg7ei64V := by unfold Statement; decide
theorem vlseg8e64V : Statement .vlseg8e64V := by unfold Statement; decide
theorem vlseg8e64ffV : Statement .vlseg8e64ffV := by unfold Statement; decide
theorem vsseg8e64V : Statement .vsseg8e64V := by unfold Statement; decide
theorem vlsseg8e64V : Statement .vlsseg8e64V := by unfold Statement; decide
theorem vssseg8e64V : Statement .vssseg8e64V := by unfold Statement; decide
theorem vluxseg8ei64V : Statement .vluxseg8ei64V := by unfold Statement; decide
theorem vsuxseg8ei64V : Statement .vsuxseg8ei64V := by unfold Statement; decide
theorem vloxseg8ei64V : Statement .vloxseg8ei64V := by unfold Statement; decide
theorem vsoxseg8ei64V : Statement .vsoxseg8ei64V := by unfold Statement; decide
theorem vl1re64V : Statement .vl1re64V := by unfold Statement; decide
theorem vl2re64V : Statement .vl2re64V := by unfold Statement; decide
theorem vl4re64V : Statement .vl4re64V := by unfold Statement; decide
theorem vl8re64V : Statement .vl8re64V := by unfold Statement; decide
theorem vs1rV : Statement .vs1rV := by unfold Statement; decide
theorem vs2rV : Statement .vs2rV := by unfold Statement; decide
theorem vs4rV : Statement .vs4rV := by unfold Statement; decide
theorem vs8rV : Statement .vs8rV := by unfold Statement; decide
theorem vlmV : Statement .vlmV := by unfold Statement; decide
theorem vsmV : Statement .vsmV := by unfold Statement; decide
theorem thAddsl : Statement .thAddsl := by unfold Statement; decide
theorem thSrri : Statement .thSrri := by unfold Statement; decide
theorem thSrriw : Statement .thSrriw := by unfold Statement; decide
theorem thExt : Statement .thExt := by unfold Statement; decide
theorem thExtu : Statement .thExtu := by unfold Statement; decide
theorem thFf0 : Statement .thFf0 := by unfold Statement; decide
theorem thFf1 : Statement .thFf1 := by unfold Statement; decide
theorem thRev : Statement .thRev := by unfold Statement; decide
theorem thRevw : Statement .thRevw := by unfold Statement; decide
theorem thTstnbz : Statement .thTstnbz := by unfold Statement; decide
theorem thTst : Statement .thTst := by unfold Statement; decide
theorem thMveqz : Statement .thMveqz := by unfold Statement; decide
theorem thMvnez : Statement .thMvnez := by unfold Statement; decide
theorem vtMaskc : Statement .vtMaskc := by unfold Statement; decide
theorem vtMaskcn : Statement .vtMaskcn := by unfold Statement; decide
theorem nop : Statement .nop := by unfold Statement; decide
theorem mv : Statement .mv := by unfold Statement; decide
theorem li : Statement .li := by unfold Statement; decide
theorem sextW : Statement .sextW := by unfold Statement; decide
theorem not : Statement .not := by unfold Statement; decide
theorem seqz : Statement .seqz := by unfold Statement; decide
theorem snez : Statement .snez := by unfold Statement; decide
theorem sltz : Statement .sltz := by unfold Statement; decide
theorem sgtz : Statement .sgtz := by unfold Statement; decide
theorem neg : Statement .neg := by unfold Statement; decide
theorem negw : Statement .negw := by unfold Statement; decide
theorem beqz : Statement .beqz := by unfold Statement; decide
theorem bnez : Statement .bnez := by unfold Statement; decide
theorem bltz : Statement .bltz := by unfold Statement; decide
theorem bgtz : Statement .bgtz := by unfold Statement; decide
theorem blez : Statement .blez := by unfold Statement; decide
theorem bgez : Statement .bgez := by unfold Statement; decide
theorem j : Statement .j := by unfold Statement; decide
theorem jalP : Statement .jalP := by unfold Statement; decide
theorem ret : Statement .ret := by unfold Statement; decide
theorem jr : Statement .jr := by unfold Statement; decide
theorem jalrP : Statement .jalrP := by unfold Statement; decide
theorem fsrm : Statement .fsrm := by unfold Statement; decide
theorem fsflags : Statement .fsflags := by unfold Statement; decide
theorem fscsr : Statement .fscsr := by unfold Statement; decide
theorem csrw : Statement .csrw := by unfold Statement; decide
theorem rdcycle : Statement .rdcycle := by unfold Statement; decide
theorem rdtime : Statement .rdtime := by unfold Statement; decide
theorem rdinstret : Statement .rdinstret := by unfold Statement; decide
theorem rdcycleh : Statement .rdcycleh := by unfold Statement; decide
theorem rdtimeh : Statement .rdtimeh := by unfold Statement; decide
theorem rdinstreth : Statement .rdinstreth := by unfold Statement; decide
theorem frcsr : Statement .frcsr := by unfold Statement; decide
theorem frrm : Statement .frrm := by unfold Statement; decide
theorem frflags : Statement .frflags := by unfold Statement; decide
theorem csrr : Statement .csrr := by unfold Statement; decide
theorem csrs : Statement .csrs := by unfold Statement; decide
theorem csrc : Statement .csrc := by unfold Statement; decide
theorem fsrmi : Statement .fsrmi := by unfold Statement; decide
theorem fsflagsi : Statement .fsflagsi := by unfold Statement; decide
theorem csrwi : Statement .csrwi := by unfold Statement; decide
theorem csrsi : Statement .csrsi := by unfold Statement; decide
theorem csrci : Statement .csrci := by unfold Statement; decide
theorem fmvS : Statement .fmvS := by unfold Statement; decide
theorem fnegS : Statement .fnegS := by unfold Statement; decide
theorem fabsS : Statement .fabsS := by unfold Statement; decide
theorem fmvD : Statement .fmvD := by unfold Statement; decide
theorem fnegD : Statement .fnegD := by unfold Statement; decide
theorem fabsD : Statement .fabsD := by unfold Statement; decide
theorem fmvH : Statement .fmvH := by unfold Statement; decide
theorem fnegH : Statement .fnegH := by unfold Statement; decide
theorem fabsH : Statement .fabsH := by unfold Statement; decide
theorem fmvQ : Statement .fmvQ := by unfold Statement; decide
theorem fnegQ : Statement .fnegQ := by unfold Statement; decide
theorem fabsQ : Statement .fabsQ := by unfold Statement; decide
theorem zextW : Statement .zextW := by unfold Statement; decide
theorem vnotV : Statement .vnotV := by unfold Statement; decide
theorem vnegV : Statement .vnegV := by unfold Statement; decide
theorem vwcvtXXV : Statement .vwcvtXXV := by unfold Statement; decide
theorem vwcvtuXXV : Statement .vwcvtuXXV := by unfold Statement; decide
theorem vncvtXXW : Statement .vncvtXXW := by unfold Statement; decide
theorem vmmvM : Statement .vmmvM := by unfold Statement; decide
theorem vmnotM : Statement .vmnotM := by unfold Statement; decide
theorem vmclrM : Statement .vmclrM := by unfold Statement; decide
theorem vmsetM : Statement .vmsetM := by unfold Statement; decide
theorem vfnegV : Statement .vfnegV := by unfold Statement; decide
theorem vfabsV : Statement .vfabsV := by unfold Statement; decide

end Sys2Proof.Laws.DescriptorCoherent
end

