-- ==== Sys2Proof/Laws/Step.lean ====
section
/-! SUPPORT. Laws/Step.lean: what one step can do, said once. -/

namespace Sys2Proof.Machine

/-- A step is the decoded opcode's record, an OPEN row's record or the illegal record, output and stepped past. -/
theorem step_cases (s : State) :
    (∃ i, decode s.win s.xlen s.cfg s.vendorRows = .instr i ∧
      step s = .next (s.output (lift (expand s.xlen (s.materialized i.catalog (.std i) i.codec)))).advance) ∨
    (∃ v, decode s.win s.xlen s.cfg s.vendorRows = .openRow v ∧
      step s = .next (s.output (s.materialized .xthead (.openVendor v.id) v.codec)).advance) ∨
    (∃ why, decode s.win s.xlen s.cfg s.vendorRows = .rejected why ∧
      step s = .next (s.output (illegalRecord s.instLen)).advance) := by
  rcases h : decode s.win s.xlen s.cfg s.vendorRows with i | v | why
  · exact .inl ⟨i, rfl, by simp only [step, h, execDecoded, exec_eq_emit, emit, thenAdvance]⟩
  · exact .inr (.inl ⟨v, rfl, by simp only [step, h, execDecoded, emitOpen, thenAdvance]⟩)
  · exact .inr (.inr ⟨why, rfl, by simp only [step, h, execDecoded, emitIllegal, thenAdvance]⟩)

end Sys2Proof.Machine
end

