-- ==== Sys2Proof/Tests/Slice0.lean ====
section
/-! SUPPORT. Tests/Slice0.lean: the decoder on the spec's own examples (one for every opcode, transcribed from the "Example"
lines of files 41 to 48), the smoke test of WellFormed, the scenarios of 95_test_vectors.md, and a witness for each
statement's hypotheses. -/

namespace Sys2Proof.Tests

open Sys2Proof.Machine

-- one kernel evaluation at a time, for memory's sake
set_option Elab.async false

/-- A state whose caller holds these units, at this XLEN and configuration. -/
def at_ (x : Xlen) (cfg : Cfg) (units : List CodeUnit) : State :=
  { State.reset with stream := units, xlen := x, cfg := cfg }

/-- The units of a 32-bit word (or of a 16-bit word and a zero unit), and two more. -/
def unitsOf (w : Inst) : List CodeUnit := [w.extractLsb' 0 16, w.extractLsb' 16 16, 0, 0]

/-- An example of the spec: the word, the opcode the decoder names, the final opcode and the nonzero operand fields. -/
structure Example where
  word : Inst
  tree : Instr
  final : Instr
  operands : Operands

/-- The decoder names the example's opcode, and its meaning gives the example's record. -/
def decodesTo (x : Xlen) (cfg : Cfg) (e : Example) : Bool :=
  let s := at_ x cfg (unitsOf e.word)
  decide (decode s.win x cfg [] = .instr e.tree) &&
    match exec e.tree s with
    | .next t => decide (t.record =
        { e.operands with len := e.tree.length, catalog := e.final.catalog, op := .std e.final, codec := e.final.codec })
    | _ => false

/-- Every example of the list decodes. -/
def decodesAll (x : Xlen) (cfg : Cfg) (es : List Example) : Bool := es.all (decodesTo x cfg)

/-- The step's whole next state: the record, the advance, and every input as it was. -/
def gives (s : State) (r : DecodedRecord) : Bool :=
  match step s with
  | .next t => decide (t =
      { s with stream := s.stream.drop (r.len / 2), pos := s.pos + r.len / 2, len := r.len, record := r })
  | _ => false

/-- The state that presents the 32-bit word does so, has no OPEN rows, and steps to the record. -/
def presents32Gives (x : Xlen) (cfg : Cfg) (w : Inst) (r : State → DecodedRecord) : Bool :=
  let s := at_ x cfg (unitsOf w)
  decide (s.unitAt 0 = w.extractLsb' 0 16 ∧ s.unitAt 1 = w.extractLsb' 16 16 ∧ s.vendorRows = []) && gives s (r s)

/-- The state that presents the 16-bit word does so, and steps to the record. -/
def presents16Gives (x : Xlen) (cfg : Cfg) (w : CodeUnit) (r : State → DecodedRecord) : Bool :=
  let s := at_ x cfg [w, 0x1234, 0, 0]
  decide (s.unitAt 0 = w) && gives s (r s)

/-! The examples of the spec, family by family. -/

/-- The examples of R1000 to R1041 at XLEN 64 (spec/41). -/
theorem test_decode_integer_1 : decodesAll .x64 {} [
  ⟨0x264b89b7, .lui, .lui, { rd := 19, imm := 642482176 }⟩,
  ⟨0xafdaaf17, .auipc, .auipc, { rd := 30, imm := -1344626688 }⟩,
  ⟨0x505967ef, .jal, .jal, { rd := 15, imm := 617732 }⟩,
  ⟨0x6c2003e7, .jalr, .jalr, { rd := 7, imm := 1730 }⟩,
  ⟨0x4c7b0863, .beq, .beq, { rs1 := 22, rs2 := 7, imm := 1232 }⟩,
  ⟨0xcaac1c63, .bne, .bne, { rs1 := 24, rs2 := 10, imm := -2888 }⟩,
  ⟨0x45b5cde3, .blt, .blt, { rs1 := 11, rs2 := 27, imm := 3162 }⟩,
  ⟨0x3f8ad3e3, .bge, .bge, { rs1 := 21, rs2 := 24, imm := 3046 }⟩,
  ⟨0x108be963, .bltu, .bltu, { rs1 := 23, rs2 := 8, imm := 274 }⟩,
  ⟨0x4517f363, .bgeu, .bgeu, { rs1 := 15, rs2 := 17, imm := 1094 }⟩,
  ⟨0x54d80403, .lb, .lb, { rd := 8, rs1 := 16, imm := 1357 }⟩,
  ⟨0x31ed9903, .lh, .lh, { rd := 18, rs1 := 27, imm := 798 }⟩,
  ⟨0x9f1f2f03, .lw, .lw, { rd := 30, rs1 := 30, imm := -1551 }⟩,
  ⟨0x343f3683, .ld, .ld, { rd := 13, rs1 := 30, imm := 835 }⟩,
  ⟨0x52de4003, .lbu, .lbu, { rs1 := 28, imm := 1325 }⟩,
  ⟨0x26e3df83, .lhu, .lhu, { rd := 31, rs1 := 7, imm := 622 }⟩,
  ⟨0x1085e383, .lwu, .lwu, { rd := 7, rs1 := 11, imm := 264 }⟩,
  ⟨0x92e584a3, .sb, .sb, { rs1 := 11, rs2 := 14, imm := -1751 }⟩,
  ⟨0x1af01523, .sh, .sh, { rs2 := 15, imm := 426 }⟩,
  ⟨0xa58e2523, .sw, .sw, { rs1 := 28, rs2 := 24, imm := -1462 }⟩,
  ⟨0xa6133da3, .sd, .sd, { rs1 := 6, rs2 := 1, imm := -1413 }⟩,
  ⟨0x81e98713, .addi, .addi, { rd := 14, rs1 := 19, imm := -2018 }⟩,
  ⟨0x4aeaa813, .slti, .slti, { rd := 16, rs1 := 21, imm := 1198 }⟩,
  ⟨0x65b0b113, .sltiu, .sltiu, { rd := 2, rs1 := 1, imm := 1627 }⟩,
  ⟨0x168fcb93, .xori, .xori, { rd := 23, rs1 := 31, imm := 360 }⟩,
  ⟨0x1ee4e213, .ori, .ori, { rd := 4, rs1 := 9, imm := 494 }⟩,
  ⟨0xa3d77993, .andi, .andi, { rd := 19, rs1 := 14, imm := -1475 }⟩,
  ⟨0x02979f13, .slli, .slli, { rd := 30, rs1 := 15, imm := 41 }⟩,
  ⟨0x02135f93, .srli, .srli, { rd := 31, rs1 := 6, imm := 33 }⟩,
  ⟨0x40785c93, .srai, .srai, { rd := 25, rs1 := 16, imm := 7 }⟩,
  ⟨0x011a0133, .add, .add, { rd := 2, rs1 := 20, rs2 := 17 }⟩,
  ⟨0x41d98d33, .sub, .sub, { rd := 26, rs1 := 19, rs2 := 29 }⟩,
  ⟨0x014016b3, .sll, .sll, { rd := 13, rs2 := 20 }⟩,
  ⟨0x00da2f33, .slt, .slt, { rd := 30, rs1 := 20, rs2 := 13 }⟩,
  ⟨0x0068bfb3, .sltu, .sltu, { rd := 31, rs1 := 17, rs2 := 6 }⟩,
  ⟨0x00e8c1b3, .xor, .xor, { rd := 3, rs1 := 17, rs2 := 14 }⟩,
  ⟨0x010cde33, .srl, .srl, { rd := 28, rs1 := 25, rs2 := 16 }⟩,
  ⟨0x41b35f33, .sra, .sra, { rd := 30, rs1 := 6, rs2 := 27 }⟩,
  ⟨0x00d56333, .or, .or, { rd := 6, rs1 := 10, rs2 := 13 }⟩,
  ⟨0x009bfcb3, .and, .and, { rd := 25, rs1 := 23, rs2 := 9 }⟩] = true := by decide +kernel

/-- The examples of R1042 to R1096 at XLEN 64 (spec/41). -/
theorem test_decode_integer_2 : decodesAll .x64 {} [
  ⟨0x3e5b838f, .fence, .fence, { pred := 14, succ := 5 }⟩,
  ⟨0x67c59b8f, .fenceI, .fenceI, {}⟩,
  ⟨0x00000073, .ecall, .ecall, {}⟩,
  ⟨0x00100073, .ebreak, .ebreak, {}⟩,
  ⟨0xb894811b, .addiw, .addiw, { rd := 2, rs1 := 9, imm := -1143 }⟩,
  ⟨0x01149a9b, .slliw, .slliw, { rd := 21, rs1 := 9, imm := 17 }⟩,
  ⟨0x00a2581b, .srliw, .srliw, { rd := 16, rs1 := 4, imm := 10 }⟩,
  ⟨0x40315d9b, .sraiw, .sraiw, { rd := 27, rs1 := 2, imm := 3 }⟩,
  ⟨0x00c3853b, .addw, .addw, { rd := 10, rs1 := 7, rs2 := 12 }⟩,
  ⟨0x409083bb, .subw, .subw, { rd := 7, rs1 := 1, rs2 := 9 }⟩,
  ⟨0x013593bb, .sllw, .sllw, { rd := 7, rs1 := 11, rs2 := 19 }⟩,
  ⟨0x00e3dbbb, .srlw, .srlw, { rd := 23, rs1 := 7, rs2 := 14 }⟩,
  ⟨0x4031ddbb, .sraw, .sraw, { rd := 27, rs1 := 3, rs2 := 3 }⟩,
  ⟨0x028b8a33, .mul, .mul, { rd := 20, rs1 := 23, rs2 := 8 }⟩,
  ⟨0x03851733, .mulh, .mulh, { rd := 14, rs1 := 10, rs2 := 24 }⟩,
  ⟨0x02382cb3, .mulhsu, .mulhsu, { rd := 25, rs1 := 16, rs2 := 3 }⟩,
  ⟨0x0217bcb3, .mulhu, .mulhu, { rd := 25, rs1 := 15, rs2 := 1 }⟩,
  ⟨0x0393cf33, .div, .div, { rd := 30, rs1 := 7, rs2 := 25 }⟩,
  ⟨0x03e6dd33, .divu, .divu, { rd := 26, rs1 := 13, rs2 := 30 }⟩,
  ⟨0x0201edb3, .rem, .rem, { rd := 27, rs1 := 3 }⟩,
  ⟨0x02f47bb3, .remu, .remu, { rd := 23, rs1 := 8, rs2 := 15 }⟩,
  ⟨0x03e386bb, .mulw, .mulw, { rd := 13, rs1 := 7, rs2 := 30 }⟩,
  ⟨0x03b2cb3b, .divw, .divw, { rd := 22, rs1 := 5, rs2 := 27 }⟩,
  ⟨0x036adabb, .divuw, .divuw, { rd := 21, rs1 := 21, rs2 := 22 }⟩,
  ⟨0x03e5e63b, .remw, .remw, { rd := 12, rs1 := 11, rs2 := 30 }⟩,
  ⟨0x02ddf6bb, .remuw, .remuw, { rd := 13, rs1 := 27, rs2 := 13 }⟩,
  ⟨0x100421af, .lrW, .lrW, { rd := 3, rs1 := 8 }⟩,
  ⟨0x1fb8a32f, .scW, .scW, { rd := 6, rs1 := 17, rs2 := 27, aq := 1, rl := 1 }⟩,
  ⟨0x02872aaf, .amoaddW, .amoaddW, { rd := 21, rs1 := 14, rs2 := 8, rl := 1 }⟩,
  ⟨0x0bd9a02f, .amoswapW, .amoswapW, { rs1 := 19, rs2 := 29, rl := 1 }⟩,
  ⟨0x2173262f, .amoxorW, .amoxorW, { rd := 12, rs1 := 6, rs2 := 23 }⟩,
  ⟨0x47502b2f, .amoorW, .amoorW, { rd := 22, rs2 := 21, aq := 1, rl := 1 }⟩,
  ⟨0x65a7aeaf, .amoandW, .amoandW, { rd := 29, rs1 := 15, rs2 := 26, aq := 1 }⟩,
  ⟨0x8361abaf, .amominW, .amominW, { rd := 23, rs1 := 3, rs2 := 22, rl := 1 }⟩,
  ⟨0xa09128af, .amomaxW, .amomaxW, { rd := 17, rs1 := 2, rs2 := 9 }⟩,
  ⟨0xc52f29af, .amominuW, .amominuW, { rd := 19, rs1 := 30, rs2 := 18, aq := 1 }⟩,
  ⟨0xe397adaf, .amomaxuW, .amomaxuW, { rd := 27, rs1 := 15, rs2 := 25, rl := 1 }⟩,
  ⟨0x100f302f, .lrD, .lrD, { rs1 := 30 }⟩,
  ⟨0x1f60b0af, .scD, .scD, { rd := 1, rs1 := 1, rs2 := 22, aq := 1, rl := 1 }⟩,
  ⟨0x01193faf, .amoaddD, .amoaddD, { rd := 31, rs1 := 18, rs2 := 17 }⟩] = true := by decide +kernel

/-- The examples of R1097 to R1147 at XLEN 64 (spec/41). -/
theorem test_decode_integer_3 : decodesAll .x64 {} [
  ⟨0x0dc93daf, .amoswapD, .amoswapD, { rd := 27, rs1 := 18, rs2 := 28, aq := 1 }⟩,
  ⟨0x238e34af, .amoxorD, .amoxorD, { rd := 9, rs1 := 28, rs2 := 24, rl := 1 }⟩,
  ⟨0x413abb2f, .amoorD, .amoorD, { rd := 22, rs1 := 21, rs2 := 19 }⟩,
  ⟨0x674eb0af, .amoandD, .amoandD, { rd := 1, rs1 := 29, rs2 := 20, aq := 1, rl := 1 }⟩,
  ⟨0x864c3f2f, .amominD, .amominD, { rd := 30, rs1 := 24, rs2 := 4, aq := 1, rl := 1 }⟩,
  ⟨0xa4963e2f, .amomaxD, .amomaxD, { rd := 28, rs1 := 12, rs2 := 9, aq := 1 }⟩,
  ⟨0xc43eb22f, .amominuD, .amominuD, { rd := 4, rs1 := 29, rs2 := 3, aq := 1 }⟩,
  ⟨0xe66e3d2f, .amomaxuD, .amomaxuD, { rd := 26, rs1 := 28, rs2 := 6, aq := 1, rl := 1 }⟩,
  ⟨0x4a379bf3, .csrrw, .csrrw, { rd := 23, rs1 := 15, csr := 1187 }⟩,
  ⟨0xe335a573, .csrrs, .csrrs, { rd := 10, rs1 := 11, csr := 3635 }⟩,
  ⟨0xb3ff31f3, .csrrc, .csrrc, { rd := 3, rs1 := 30, csr := 2879 }⟩,
  ⟨0x36b1dcf3, .csrrwi, .csrrwi, { rd := 25, imm := 3, csr := 875 }⟩,
  ⟨0xd62b6173, .csrrsi, .csrrsi, { rd := 2, imm := 22, csr := 3426 }⟩,
  ⟨0x8249f6f3, .csrrci, .csrrci, { rd := 13, imm := 19, csr := 2084 }⟩,
  ⟨0x00200073, .uret, .uret, {}⟩,
  ⟨0x10200073, .sret, .sret, {}⟩,
  ⟨0x30200073, .mret, .mret, {}⟩,
  ⟨0x7b200073, .dret, .dret, {}⟩,
  ⟨0x10500073, .wfi, .wfi, {}⟩,
  ⟨0x18000073, .sfenceWInval, .sfenceWInval, {}⟩,
  ⟨0x18100073, .sfenceInvalIr, .sfenceInvalIr, {}⟩,
  ⟨0x137d8073, .sfenceVma, .sfenceVma, { rs1 := 27, rs2 := 23 }⟩,
  ⟨0x160f0073, .sinvalVma, .sinvalVma, { rs1 := 30 }⟩,
  ⟨0x23e60073, .hfenceVvma, .hfenceVvma, { rs1 := 12, rs2 := 30 }⟩,
  ⟨0x638f8073, .hfenceGvma, .hfenceGvma, { rs1 := 31, rs2 := 24 }⟩,
  ⟨0x27e38073, .hinvalVvma, .hinvalVvma, { rs1 := 7, rs2 := 30 }⟩,
  ⟨0x67f68073, .hinvalGvma, .hinvalGvma, { rs1 := 13, rs2 := 31 }⟩,
  ⟨0x600547f3, .hlvB, .hlvB, { rd := 15, rs1 := 10 }⟩,
  ⟨0x60124ff3, .hlvBu, .hlvBu, { rd := 31, rs1 := 4 }⟩,
  ⟨0x64094273, .hlvH, .hlvH, { rd := 4, rs1 := 18 }⟩,
  ⟨0x6411c273, .hlvHu, .hlvHu, { rd := 4, rs1 := 3 }⟩,
  ⟨0x64344ef3, .hlvxHu, .hlvxHu, { rd := 29, rs1 := 8 }⟩,
  ⟨0x68054873, .hlvW, .hlvW, { rd := 16, rs1 := 10 }⟩,
  ⟨0x683d4e73, .hlvxWu, .hlvxWu, { rd := 28, rs1 := 26 }⟩,
  ⟨0x681942f3, .hlvWu, .hlvWu, { rd := 5, rs1 := 18 }⟩,
  ⟨0x6c09cf73, .hlvD, .hlvD, { rd := 30, rs1 := 19 }⟩,
  ⟨0x62e5c073, .hsvB, .hsvB, { rs1 := 11, rs2 := 14 }⟩,
  ⟨0x660e4073, .hsvH, .hsvH, { rs1 := 28 }⟩,
  ⟨0x6ba04073, .hsvW, .hsvW, { rs2 := 26 }⟩,
  ⟨0x6fcfc073, .hsvD, .hsvD, { rs1 := 31, rs2 := 28 }⟩] = true := by decide +kernel

/-- The examples of R1148 to R1151 at XLEN 64 (spec/41). -/
theorem test_decode_integer_4 : decodesAll .x64 {} [
  ⟨0x0001200f, .cboInval, .cboInval, { rs1 := 2 }⟩,
  ⟨0x0017200f, .cboClean, .cboClean, { rs1 := 14 }⟩,
  ⟨0x0028a00f, .cboFlush, .cboFlush, { rs1 := 17 }⟩,
  ⟨0x0045200f, .cboZero, .cboZero, { rs1 := 10 }⟩] = true := by decide +kernel

/-- The examples of R1017 to R1115 at XLEN 128 (spec/41). -/
theorem test_decode_integer_5 : decodesAll .x128 {} [
  ⟨0x8e4afb83, .ldu, .ldu, { rd := 23, rs1 := 21, imm := -1820 }⟩,
  ⟨0x7427c2a3, .sq, .sq, { rs1 := 15, rs2 := 2, imm := 1861 }⟩,
  ⟨0x3fd3218f, .lq, .lq, { rd := 3, rs1 := 6, imm := 1021 }⟩,
  ⟨0xf625885b, .addid, .addid, { rd := 16, rs1 := 11, imm := -158 }⟩,
  ⟨0x03a113db, .sllid, .sllid, { rd := 7, rs1 := 2, imm := 58 }⟩,
  ⟨0x010dd9db, .srlid, .srlid, { rd := 19, rs1 := 27, imm := 16 }⟩,
  ⟨0x43dedc5b, .sraid, .sraid, { rd := 24, rs1 := 29, imm := 61 }⟩,
  ⟨0x003f00fb, .addd, .addd, { rd := 1, rs1 := 30, rs2 := 3 }⟩,
  ⟨0x40b608fb, .subd, .subd, { rd := 17, rs1 := 12, rs2 := 11 }⟩,
  ⟨0x00b51cfb, .slld, .slld, { rd := 25, rs1 := 10, rs2 := 11 }⟩,
  ⟨0x00e3d7fb, .srld, .srld, { rd := 15, rs1 := 7, rs2 := 14 }⟩,
  ⟨0x410fdd7b, .srad, .srad, { rd := 26, rs1 := 31, rs2 := 16 }⟩,
  ⟨0x03238efb, .muld, .muld, { rd := 29, rs1 := 7, rs2 := 18 }⟩,
  ⟨0x03a648fb, .divd, .divd, { rd := 17, rs1 := 12, rs2 := 26 }⟩,
  ⟨0x03285bfb, .divud, .divud, { rd := 23, rs1 := 16, rs2 := 18 }⟩,
  ⟨0x02b962fb, .remd, .remd, { rd := 5, rs1 := 18, rs2 := 11 }⟩,
  ⟨0x0201f8fb, .remud, .remud, { rd := 17, rs1 := 3 }⟩,
  ⟨0x140fc42f, .lrQ, .lrQ, { rd := 8, rs1 := 31, aq := 1 }⟩,
  ⟨0x1afc4b2f, .scQ, .scQ, { rd := 22, rs1 := 24, rs2 := 15, rl := 1 }⟩,
  ⟨0x03ebcdaf, .amoaddQ, .amoaddQ, { rd := 27, rs1 := 23, rs2 := 30, rl := 1 }⟩,
  ⟨0x0d2dcd2f, .amoswapQ, .amoswapQ, { rd := 26, rs1 := 27, rs2 := 18, aq := 1 }⟩,
  ⟨0x20e24b2f, .amoxorQ, .amoxorQ, { rd := 22, rs1 := 4, rs2 := 14 }⟩,
  ⟨0x45524d2f, .amoorQ, .amoorQ, { rd := 26, rs1 := 4, rs2 := 21, aq := 1 }⟩,
  ⟨0x603dcb2f, .amoandQ, .amoandQ, { rd := 22, rs1 := 27, rs2 := 3 }⟩,
  ⟨0x85fac92f, .amominQ, .amominQ, { rd := 18, rs1 := 21, rs2 := 31, aq := 1 }⟩,
  ⟨0xa50fceaf, .amomaxQ, .amomaxQ, { rd := 29, rs1 := 31, rs2 := 16, aq := 1 }⟩,
  ⟨0xc1c14aaf, .amominuQ, .amominuQ, { rd := 21, rs1 := 2, rs2 := 28 }⟩,
  ⟨0xe1c7c42f, .amomaxuQ, .amomaxuQ, { rd := 8, rs1 := 15, rs2 := 28 }⟩] = true := by decide +kernel

/-- The examples of R2000 to R2039 at XLEN 64 (spec/42). -/
theorem test_decode_float_1 : decodesAll .x64 {} [
  ⟨0x50751207, .flh, .flh, { rd := 4, rs1 := 10, imm := 1287 }⟩,
  ⟨0xc6682807, .flw, .flw, { rd := 16, rs1 := 16, imm := -922 }⟩,
  ⟨0xefd7b907, .fld, .fld, { rd := 18, rs1 := 15, imm := -259 }⟩,
  ⟨0xa4544787, .flq, .flq, { rd := 15, rs1 := 8, imm := -1467 }⟩,
  ⟨0x72b212a7, .fsh, .fsh, { rs1 := 4, rs2 := 11, imm := 1829 }⟩,
  ⟨0x60e32ba7, .fsw, .fsw, { rs1 := 6, rs2 := 14, imm := 1559 }⟩,
  ⟨0xdd0b30a7, .fsd, .fsd, { rs1 := 22, rs2 := 16, imm := -575 }⟩,
  ⟨0xef9ec8a7, .fsq, .fsq, { rs1 := 29, rs2 := 25, imm := -271 }⟩,
  ⟨0xa09750c3, .fmaddS, .fmaddS, { rd := 1, rs1 := 14, rs2 := 9, rs3 := 20, rm := 5 }⟩,
  ⟨0xb16d69c7, .fmsubS, .fmsubS, { rd := 19, rs1 := 26, rs2 := 22, rs3 := 22, rm := 6 }⟩,
  ⟨0x21fb08cb, .fnmsubS, .fnmsubS, { rd := 17, rs1 := 22, rs2 := 31, rs3 := 4 }⟩,
  ⟨0x2192dfcf, .fnmaddS, .fnmaddS, { rd := 31, rs1 := 5, rs2 := 25, rs3 := 4, rm := 5 }⟩,
  ⟨0x00528dd3, .faddS, .faddS, { rd := 27, rs1 := 5, rs2 := 5 }⟩,
  ⟨0x0924b353, .fsubS, .fsubS, { rd := 6, rs1 := 9, rs2 := 18, rm := 3 }⟩,
  ⟨0x10cd6253, .fmulS, .fmulS, { rd := 4, rs1 := 26, rs2 := 12, rm := 6 }⟩,
  ⟨0x1875cbd3, .fdivS, .fdivS, { rd := 23, rs1 := 11, rs2 := 7, rm := 4 }⟩,
  ⟨0x58008f53, .fsqrtS, .fsqrtS, { rd := 30, rs1 := 1 }⟩,
  ⟨0x21288253, .fsgnjS, .fsgnjS, { rd := 4, rs1 := 17, rs2 := 18 }⟩,
  ⟨0x20c29153, .fsgnjnS, .fsgnjnS, { rd := 2, rs1 := 5, rs2 := 12 }⟩,
  ⟨0x21eb2353, .fsgnjxS, .fsgnjxS, { rd := 6, rs1 := 22, rs2 := 30 }⟩,
  ⟨0x28148fd3, .fminS, .fminS, { rd := 31, rs1 := 9, rs2 := 1 }⟩,
  ⟨0x28709a53, .fmaxS, .fmaxS, { rd := 20, rs1 := 1, rs2 := 7 }⟩,
  ⟨0x401e47d3, .fcvtSD, .fcvtSD, { rd := 15, rs1 := 28, rm := 4 }⟩,
  ⟨0x402f58d3, .fcvtSH, .fcvtSH, { rd := 17, rs1 := 30, rm := 5 }⟩,
  ⟨0x4034f4d3, .fcvtSQ, .fcvtSQ, { rd := 9, rs1 := 9, rm := 7 }⟩,
  ⟨0xa1382553, .feqS, .feqS, { rd := 10, rs1 := 16, rs2 := 19 }⟩,
  ⟨0xa0479253, .fltS, .fltS, { rd := 4, rs1 := 15, rs2 := 4 }⟩,
  ⟨0xa10603d3, .fleS, .fleS, { rd := 7, rs1 := 12, rs2 := 16 }⟩,
  ⟨0xe0031d53, .fclassS, .fclassS, { rd := 26, rs1 := 6 }⟩,
  ⟨0xc005cc53, .fcvtWS, .fcvtWS, { rd := 24, rs1 := 11, rm := 4 }⟩,
  ⟨0xd00cc7d3, .fcvtSW, .fcvtSW, { rd := 15, rs1 := 25, rm := 4 }⟩,
  ⟨0xc01243d3, .fcvtWuS, .fcvtWuS, { rd := 7, rs1 := 4, rm := 4 }⟩,
  ⟨0xd0151853, .fcvtSWu, .fcvtSWu, { rd := 16, rs1 := 10, rm := 1 }⟩,
  ⟨0xc0269253, .fcvtLS, .fcvtLS, { rd := 4, rs1 := 13, rm := 1 }⟩,
  ⟨0xd02d0b53, .fcvtSL, .fcvtSL, { rd := 22, rs1 := 26 }⟩,
  ⟨0xc0368253, .fcvtLuS, .fcvtLuS, { rd := 4, rs1 := 13 }⟩,
  ⟨0xd03bf153, .fcvtSLu, .fcvtSLu, { rd := 2, rs1 := 23, rm := 7 }⟩,
  ⟨0xf01288d3, .fliS, .fliS, { rd := 17, imm := 5 }⟩,
  ⟨0x291a2153, .fminmS, .fminmS, { rd := 2, rs1 := 20, rs2 := 17 }⟩,
  ⟨0x2979b653, .fmaxmS, .fmaxmS, { rd := 12, rs1 := 19, rs2 := 23 }⟩] = true := by decide +kernel

/-- The examples of R2040 to R2079 at XLEN 64 (spec/42). -/
theorem test_decode_float_2 : decodesAll .x64 {} [
  ⟨0x40499053, .froundS, .froundS, { rs1 := 19, rm := 1 }⟩,
  ⟨0x405137d3, .froundnxS, .froundnxS, { rd := 15, rs1 := 2, rm := 3 }⟩,
  ⟨0xa19147d3, .fleqS, .fleqS, { rd := 15, rs1 := 2, rs2 := 25 }⟩,
  ⟨0xa0a1d253, .fltqS, .fltqS, { rd := 4, rs1 := 3, rs2 := 10 }⟩,
  ⟨0x7a73bf43, .fmaddD, .fmaddD, { rd := 30, rs1 := 7, rs2 := 7, rs3 := 15, rm := 3 }⟩,
  ⟨0x02b7d1c7, .fmsubD, .fmsubD, { rd := 3, rs1 := 15, rs2 := 11, rm := 5 }⟩,
  ⟨0x82ff724b, .fnmsubD, .fnmsubD, { rd := 4, rs1 := 30, rs2 := 15, rs3 := 16, rm := 7 }⟩,
  ⟨0xbbd9b64f, .fnmaddD, .fnmaddD, { rd := 12, rs1 := 19, rs2 := 29, rs3 := 23, rm := 3 }⟩,
  ⟨0x03575753, .faddD, .faddD, { rd := 14, rs1 := 14, rs2 := 21, rm := 5 }⟩,
  ⟨0x0afa5ed3, .fsubD, .fsubD, { rd := 29, rs1 := 20, rs2 := 15, rm := 5 }⟩,
  ⟨0x1338ead3, .fmulD, .fmulD, { rd := 21, rs1 := 17, rs2 := 19, rm := 6 }⟩,
  ⟨0x1b338c53, .fdivD, .fdivD, { rd := 24, rs1 := 7, rs2 := 19 }⟩,
  ⟨0x5a0c7d53, .fsqrtD, .fsqrtD, { rd := 26, rs1 := 24, rm := 7 }⟩,
  ⟨0x23b48cd3, .fsgnjD, .fsgnjD, { rd := 25, rs1 := 9, rs2 := 27 }⟩,
  ⟨0x22f41f53, .fsgnjnD, .fsgnjnD, { rd := 30, rs1 := 8, rs2 := 15 }⟩,
  ⟨0x226626d3, .fsgnjxD, .fsgnjxD, { rd := 13, rs1 := 12, rs2 := 6 }⟩,
  ⟨0x2a230fd3, .fminD, .fminD, { rd := 31, rs1 := 6, rs2 := 2 }⟩,
  ⟨0x2adf9f53, .fmaxD, .fmaxD, { rd := 30, rs1 := 31, rs2 := 13 }⟩,
  ⟨0x4200d5d3, .fcvtDS, .fcvtDS, { rd := 11, rs1 := 1, rm := 5 }⟩,
  ⟨0x4222c053, .fcvtDH, .fcvtDH, { rs1 := 5, rm := 4 }⟩,
  ⟨0x42394853, .fcvtDQ, .fcvtDQ, { rd := 16, rs1 := 18, rm := 4 }⟩,
  ⟨0xa2bd20d3, .feqD, .feqD, { rd := 1, rs1 := 26, rs2 := 11 }⟩,
  ⟨0xa3081853, .fltD, .fltD, { rd := 16, rs1 := 16, rs2 := 16 }⟩,
  ⟨0xa3210953, .fleD, .fleD, { rd := 18, rs1 := 2, rs2 := 18 }⟩,
  ⟨0xe2001cd3, .fclassD, .fclassD, { rd := 25 }⟩,
  ⟨0xc200b5d3, .fcvtWD, .fcvtWD, { rd := 11, rs1 := 1, rm := 3 }⟩,
  ⟨0xd20dff53, .fcvtDW, .fcvtDW, { rd := 30, rs1 := 27, rm := 7 }⟩,
  ⟨0xc21cfed3, .fcvtWuD, .fcvtWuD, { rd := 29, rs1 := 25, rm := 7 }⟩,
  ⟨0xd21eb3d3, .fcvtDWu, .fcvtDWu, { rd := 7, rs1 := 29, rm := 3 }⟩,
  ⟨0xc22c10d3, .fcvtLD, .fcvtLD, { rd := 1, rs1 := 24, rm := 1 }⟩,
  ⟨0xd2298dd3, .fcvtDL, .fcvtDL, { rd := 27, rs1 := 19 }⟩,
  ⟨0xc23b36d3, .fcvtLuD, .fcvtLuD, { rd := 13, rs1 := 22, rm := 3 }⟩,
  ⟨0xd23da6d3, .fcvtDLu, .fcvtDLu, { rd := 13, rs1 := 27, rm := 2 }⟩,
  ⟨0xf2138d53, .fliD, .fliD, { rd := 26, imm := 7 }⟩,
  ⟨0x2ba7a353, .fminmD, .fminmD, { rd := 6, rs1 := 15, rs2 := 26 }⟩,
  ⟨0x2b52b053, .fmaxmD, .fmaxmD, { rs1 := 5, rs2 := 21 }⟩,
  ⟨0x424c7ed3, .froundD, .froundD, { rd := 29, rs1 := 24, rm := 7 }⟩,
  ⟨0x425cf4d3, .froundnxD, .froundnxD, { rd := 9, rs1 := 25, rm := 7 }⟩,
  ⟨0xa2d14bd3, .fleqD, .fleqD, { rd := 23, rs1 := 2, rs2 := 13 }⟩,
  ⟨0xa3d4d8d3, .fltqD, .fltqD, { rd := 17, rs1 := 9, rs2 := 29 }⟩] = true := by decide +kernel

/-- The examples of R2080 to R2119 at XLEN 64 (spec/42). -/
theorem test_decode_float_3 : decodesAll .x64 {} [
  ⟨0x2d6601c3, .fmaddH, .fmaddH, { rd := 3, rs1 := 12, rs2 := 22, rs3 := 5 }⟩,
  ⟨0xddfd8bc7, .fmsubH, .fmsubH, { rd := 23, rs1 := 27, rs2 := 31, rs3 := 27 }⟩,
  ⟨0x1d10494b, .fnmsubH, .fnmsubH, { rd := 18, rs2 := 17, rs3 := 3, rm := 4 }⟩,
  ⟨0x64522acf, .fnmaddH, .fnmaddH, { rd := 21, rs1 := 4, rs2 := 5, rs3 := 12, rm := 2 }⟩,
  ⟨0x05eaba53, .faddH, .faddH, { rd := 20, rs1 := 21, rs2 := 30, rm := 3 }⟩,
  ⟨0x0c2baad3, .fsubH, .fsubH, { rd := 21, rs1 := 23, rs2 := 2, rm := 2 }⟩,
  ⟨0x148449d3, .fmulH, .fmulH, { rd := 19, rs1 := 8, rs2 := 8, rm := 4 }⟩,
  ⟨0x1c6fc353, .fdivH, .fdivH, { rd := 6, rs1 := 31, rs2 := 6, rm := 4 }⟩,
  ⟨0x5c01f353, .fsqrtH, .fsqrtH, { rd := 6, rs1 := 3, rm := 7 }⟩,
  ⟨0x244f8b53, .fsgnjH, .fsgnjH, { rd := 22, rs1 := 31, rs2 := 4 }⟩,
  ⟨0x241e1a53, .fsgnjnH, .fsgnjnH, { rd := 20, rs1 := 28, rs2 := 1 }⟩,
  ⟨0x2429a5d3, .fsgnjxH, .fsgnjxH, { rd := 11, rs1 := 19, rs2 := 2 }⟩,
  ⟨0x2d5986d3, .fminH, .fminH, { rd := 13, rs1 := 19, rs2 := 21 }⟩,
  ⟨0x2ca01453, .fmaxH, .fmaxH, { rd := 8, rs2 := 10 }⟩,
  ⟨0x4409f253, .fcvtHS, .fcvtHS, { rd := 4, rs1 := 19, rm := 7 }⟩,
  ⟨0x44177553, .fcvtHD, .fcvtHD, { rd := 10, rs1 := 14, rm := 7 }⟩,
  ⟨0x443f1153, .fcvtHQ, .fcvtHQ, { rd := 2, rs1 := 30, rm := 1 }⟩,
  ⟨0xa5f02353, .feqH, .feqH, { rd := 6, rs2 := 31 }⟩,
  ⟨0xa4eb17d3, .fltH, .fltH, { rd := 15, rs1 := 22, rs2 := 14 }⟩,
  ⟨0xa4940553, .fleH, .fleH, { rd := 10, rs1 := 8, rs2 := 9 }⟩,
  ⟨0xe40b9353, .fclassH, .fclassH, { rd := 6, rs1 := 23 }⟩,
  ⟨0xc4072153, .fcvtWH, .fcvtWH, { rd := 2, rs1 := 14, rm := 2 }⟩,
  ⟨0xd4006b53, .fcvtHW, .fcvtHW, { rd := 22, rm := 6 }⟩,
  ⟨0xc4107453, .fcvtWuH, .fcvtWuH, { rd := 8, rm := 7 }⟩,
  ⟨0xd41270d3, .fcvtHWu, .fcvtHWu, { rd := 1, rs1 := 4, rm := 7 }⟩,
  ⟨0xc42d2053, .fcvtLH, .fcvtLH, { rs1 := 26, rm := 2 }⟩,
  ⟨0xd42d5ed3, .fcvtHL, .fcvtHL, { rd := 29, rs1 := 26, rm := 5 }⟩,
  ⟨0xc43119d3, .fcvtLuH, .fcvtLuH, { rd := 19, rs1 := 2, rm := 1 }⟩,
  ⟨0xd43d6fd3, .fcvtHLu, .fcvtHLu, { rd := 31, rs1 := 26, rm := 6 }⟩,
  ⟨0xf4110cd3, .fliH, .fliH, { rd := 25, imm := 2 }⟩,
  ⟨0x2c33aa53, .fminmH, .fminmH, { rd := 20, rs1 := 7, rs2 := 3 }⟩,
  ⟨0x2cc63ad3, .fmaxmH, .fmaxmH, { rd := 21, rs1 := 12, rs2 := 12 }⟩,
  ⟨0x44469153, .froundH, .froundH, { rd := 2, rs1 := 13, rm := 1 }⟩,
  ⟨0x44589d53, .froundnxH, .froundnxH, { rd := 26, rs1 := 17, rm := 1 }⟩,
  ⟨0xa4ee4f53, .fleqH, .fleqH, { rd := 30, rs1 := 28, rs2 := 14 }⟩,
  ⟨0xa4d4ded3, .fltqH, .fltqH, { rd := 29, rs1 := 9, rs2 := 13 }⟩,
  ⟨0xb75d50c3, .fmaddQ, .fmaddQ, { rd := 1, rs1 := 26, rs2 := 21, rs3 := 22, rm := 5 }⟩,
  ⟨0x1fea7cc7, .fmsubQ, .fmsubQ, { rd := 25, rs1 := 20, rs2 := 30, rs3 := 3, rm := 7 }⟩,
  ⟨0x771362cb, .fnmsubQ, .fnmsubQ, { rd := 5, rs1 := 6, rs2 := 17, rs3 := 14, rm := 6 }⟩,
  ⟨0x1eb630cf, .fnmaddQ, .fnmaddQ, { rd := 1, rs1 := 12, rs2 := 11, rs3 := 3, rm := 3 }⟩] = true := by decide +kernel

/-- The examples of R2120 to R2161 at XLEN 64 (spec/42). -/
theorem test_decode_float_4 : decodesAll .x64 {} [
  ⟨0x067b9153, .faddQ, .faddQ, { rd := 2, rs1 := 23, rs2 := 7, rm := 1 }⟩,
  ⟨0x0ea2d9d3, .fsubQ, .fsubQ, { rd := 19, rs1 := 5, rs2 := 10, rm := 5 }⟩,
  ⟨0x17d09fd3, .fmulQ, .fmulQ, { rd := 31, rs1 := 1, rs2 := 29, rm := 1 }⟩,
  ⟨0x1f8847d3, .fdivQ, .fdivQ, { rd := 15, rs1 := 16, rs2 := 24, rm := 4 }⟩,
  ⟨0x5e0125d3, .fsqrtQ, .fsqrtQ, { rd := 11, rs1 := 2, rm := 2 }⟩,
  ⟨0x27d700d3, .fsgnjQ, .fsgnjQ, { rd := 1, rs1 := 14, rs2 := 29 }⟩,
  ⟨0x260095d3, .fsgnjnQ, .fsgnjnQ, { rd := 11, rs1 := 1 }⟩,
  ⟨0x2720a0d3, .fsgnjxQ, .fsgnjxQ, { rd := 1, rs1 := 1, rs2 := 18 }⟩,
  ⟨0x2e518f53, .fminQ, .fminQ, { rd := 30, rs1 := 3, rs2 := 5 }⟩,
  ⟨0x2e6f15d3, .fmaxQ, .fmaxQ, { rd := 11, rs1 := 30, rs2 := 6 }⟩,
  ⟨0x460846d3, .fcvtQS, .fcvtQS, { rd := 13, rs1 := 16, rm := 4 }⟩,
  ⟨0x46171453, .fcvtQD, .fcvtQD, { rd := 8, rs1 := 14, rm := 1 }⟩,
  ⟨0x46281253, .fcvtQH, .fcvtQH, { rd := 4, rs1 := 16, rm := 1 }⟩,
  ⟨0xa71c2cd3, .feqQ, .feqQ, { rd := 25, rs1 := 24, rs2 := 17 }⟩,
  ⟨0xa6921753, .fltQ, .fltQ, { rd := 14, rs1 := 4, rs2 := 9 }⟩,
  ⟨0xa7180f53, .fleQ, .fleQ, { rd := 30, rs1 := 16, rs2 := 17 }⟩,
  ⟨0xe60d13d3, .fclassQ, .fclassQ, { rd := 7, rs1 := 26 }⟩,
  ⟨0xc60ddad3, .fcvtWQ, .fcvtWQ, { rd := 21, rs1 := 27, rm := 5 }⟩,
  ⟨0xd6035653, .fcvtQW, .fcvtQW, { rd := 12, rs1 := 6, rm := 5 }⟩,
  ⟨0xc61135d3, .fcvtWuQ, .fcvtWuQ, { rd := 11, rs1 := 2, rm := 3 }⟩,
  ⟨0xd6149553, .fcvtQWu, .fcvtQWu, { rd := 10, rs1 := 9, rm := 1 }⟩,
  ⟨0xc628bfd3, .fcvtLQ, .fcvtLQ, { rd := 31, rs1 := 17, rm := 3 }⟩,
  ⟨0xd623b1d3, .fcvtQL, .fcvtQL, { rd := 3, rs1 := 7, rm := 3 }⟩,
  ⟨0xc63cd353, .fcvtLuQ, .fcvtLuQ, { rd := 6, rs1 := 25, rm := 5 }⟩,
  ⟨0xd635efd3, .fcvtQLu, .fcvtQLu, { rd := 31, rs1 := 11, rm := 6 }⟩,
  ⟨0xf6100953, .fliQ, .fliQ, { rd := 18 }⟩,
  ⟨0x2e0aa153, .fminmQ, .fminmQ, { rd := 2, rs1 := 21 }⟩,
  ⟨0x2fc533d3, .fmaxmQ, .fmaxmQ, { rd := 7, rs1 := 10, rs2 := 28 }⟩,
  ⟨0x46402653, .froundQ, .froundQ, { rd := 12, rm := 2 }⟩,
  ⟨0x46579653, .froundnxQ, .froundnxQ, { rd := 12, rs1 := 15, rm := 1 }⟩,
  ⟨0xa707cbd3, .fleqQ, .fleqQ, { rd := 23, rs1 := 15, rs2 := 16 }⟩,
  ⟨0xa6dc5a53, .fltqQ, .fltqQ, { rd := 20, rs1 := 24, rs2 := 13 }⟩,
  ⟨0xe0028dd3, .fmvXW, .fmvXW, { rd := 27, rs1 := 5 }⟩,
  ⟨0xe20d03d3, .fmvXD, .fmvXD, { rd := 7, rs1 := 26 }⟩,
  ⟨0xe40888d3, .fmvXH, .fmvXH, { rd := 17, rs1 := 17 }⟩,
  ⟨0xf0058dd3, .fmvWX, .fmvWX, { rd := 27, rs1 := 11 }⟩,
  ⟨0xf2038b53, .fmvDX, .fmvDX, { rd := 22, rs1 := 7 }⟩,
  ⟨0xf40c8553, .fmvHX, .fmvHX, { rd := 10, rs1 := 25 }⟩,
  ⟨0xc2861753, .fcvtmodWD, .fcvtmodWD, { rd := 14, rs1 := 12 }⟩,
  ⟨0xe61f8453, .fmvhXQ, .fmvhXQ, { rd := 8, rs1 := 31 }⟩] = true := by decide +kernel

/-- The examples of R2162 at XLEN 64 (spec/42). -/
theorem test_decode_float_5 : decodesAll .x64 {} [
  ⟨0xb6e300d3, .fmvpQX, .fmvpQX, { rd := 1, rs1 := 6, rs2 := 14 }⟩] = true := by decide +kernel

/-- The examples of R2159 to R2160 at XLEN 32 (spec/42). -/
theorem test_decode_float_6 : decodesAll .x32 {} [
  ⟨0xe2150653, .fmvhXD, .fmvhXD, { rd := 12, rs1 := 10 }⟩,
  ⟨0xb32d8153, .fmvpDX, .fmvpDX, { rd := 2, rs1 := 27, rs2 := 18 }⟩] = true := by decide +kernel

/-- The examples of R3000 to R3039 at XLEN 64 (spec/43). -/
theorem test_decode_bitmanip_1 : decodesAll .x64 {} [
  ⟨0x211b20b3, .sh1add, .sh1add, { rd := 1, rs1 := 22, rs2 := 17 }⟩,
  ⟨0x2088ca33, .sh2add, .sh2add, { rd := 20, rs1 := 17, rs2 := 8 }⟩,
  ⟨0x217aef33, .sh3add, .sh3add, { rd := 30, rs1 := 21, rs2 := 23 }⟩,
  ⟨0x09ec0b3b, .addUw, .addUw, { rd := 22, rs1 := 24, rs2 := 30 }⟩,
  ⟨0x20baaa3b, .sh1addUw, .sh1addUw, { rd := 20, rs1 := 21, rs2 := 11 }⟩,
  ⟨0x21c949bb, .sh2addUw, .sh2addUw, { rd := 19, rs1 := 18, rs2 := 28 }⟩,
  ⟨0x207b643b, .sh3addUw, .sh3addUw, { rd := 8, rs1 := 22, rs2 := 7 }⟩,
  ⟨0x08df1c1b, .slliUw, .slliUw, { rd := 24, rs1 := 30, imm := 13 }⟩,
  ⟨0x417472b3, .andn, .andn, { rd := 5, rs1 := 8, rs2 := 23 }⟩,
  ⟨0x4073e933, .orn, .orn, { rd := 18, rs1 := 7, rs2 := 7 }⟩,
  ⟨0x4021c433, .xnor, .xnor, { rd := 8, rs1 := 3, rs2 := 2 }⟩,
  ⟨0x60061c13, .clz, .clz, { rd := 24, rs1 := 12 }⟩,
  ⟨0x60189e13, .ctz, .ctz, { rd := 28, rs1 := 17 }⟩,
  ⟨0x60261493, .cpop, .cpop, { rd := 9, rs1 := 12 }⟩,
  ⟨0x60491113, .sextB, .sextB, { rd := 2, rs1 := 18 }⟩,
  ⟨0x605e9713, .sextH, .sextH, { rd := 14, rs1 := 29 }⟩,
  ⟨0x0b43e9b3, .max, .max, { rd := 19, rs1 := 7, rs2 := 20 }⟩,
  ⟨0x0b81fdb3, .maxu, .maxu, { rd := 27, rs1 := 3, rs2 := 24 }⟩,
  ⟨0x0abfc233, .min, .min, { rd := 4, rs1 := 31, rs2 := 11 }⟩,
  ⟨0x0bbed633, .minu, .minu, { rd := 12, rs1 := 29, rs2 := 27 }⟩,
  ⟨0x61ae9333, .rol, .rol, { rd := 6, rs1 := 29, rs2 := 26 }⟩,
  ⟨0x61f65d33, .ror, .ror, { rd := 26, rs1 := 12, rs2 := 31 }⟩,
  ⟨0x6063d713, .rori, .rori, { rd := 14, rs1 := 7, imm := 6 }⟩,
  ⟨0x2876dc93, .orcB, .orcB, { rd := 25, rs1 := 13 }⟩,
  ⟨0x6b855593, .rev8, .rev8, { rd := 11, rs1 := 10 }⟩,
  ⟨0x080fcbbb, .zextH, .zextH, { rd := 23, rs1 := 31 }⟩,
  ⟨0x60089c9b, .clzw, .clzw, { rd := 25, rs1 := 17 }⟩,
  ⟨0x6014169b, .ctzw, .ctzw, { rd := 13, rs1 := 8 }⟩,
  ⟨0x602e959b, .cpopw, .cpopw, { rd := 11, rs1 := 29 }⟩,
  ⟨0x60ca9ebb, .rolw, .rolw, { rd := 29, rs1 := 21, rs2 := 12 }⟩,
  ⟨0x61c6d63b, .rorw, .rorw, { rd := 12, rs1 := 13, rs2 := 28 }⟩,
  ⟨0x61acd91b, .roriw, .roriw, { rd := 18, rs1 := 25, imm := 26 }⟩,
  ⟨0x0ac19fb3, .clmul, .clmul, { rd := 31, rs1 := 3, rs2 := 12 }⟩,
  ⟨0x0a4ca2b3, .clmulr, .clmulr, { rd := 5, rs1 := 25, rs2 := 4 }⟩,
  ⟨0x0a75b7b3, .clmulh, .clmulh, { rd := 15, rs1 := 11, rs2 := 7 }⟩,
  ⟨0x494d1cb3, .bclr, .bclr, { rd := 25, rs1 := 26, rs2 := 20 }⟩,
  ⟨0x48e05633, .bext, .bext, { rd := 12, rs2 := 14 }⟩,
  ⟨0x693d93b3, .binv, .binv, { rd := 7, rs1 := 27, rs2 := 19 }⟩,
  ⟨0x29e11933, .bset, .bset, { rd := 18, rs1 := 2, rs2 := 30 }⟩,
  ⟨0x4a851113, .bclri, .bclri, { rd := 2, rs1 := 10, imm := 40 }⟩] = true := by decide +kernel

/-- The examples of R3040 to R3081 at XLEN 64 (spec/43). -/
theorem test_decode_bitmanip_2 : decodesAll .x64 {} [
  ⟨0x48875293, .bexti, .bexti, { rd := 5, rs1 := 14, imm := 8 }⟩,
  ⟨0x6b749393, .binvi, .binvi, { rd := 7, rs1 := 9, imm := 55 }⟩,
  ⟨0x28029093, .bseti, .bseti, { rd := 1, rs1 := 5 }⟩,
  ⟨0x08b6c3b3, .pack, .pack, { rd := 7, rs1 := 13, rs2 := 11 }⟩,
  ⟨0x0817f333, .packh, .packh, { rd := 6, rs1 := 15, rs2 := 1 }⟩,
  ⟨0x09a04cbb, .packw, .packw, { rd := 25, rs2 := 26 }⟩,
  ⟨0x68715213, .brev8, .brev8, { rd := 4, rs1 := 2 }⟩,
  ⟨0x29302233, .xperm4, .xperm4, { rd := 4, rs2 := 19 }⟩,
  ⟨0x28f7c933, .xperm8, .xperm8, { rd := 18, rs1 := 15, rs2 := 15 }⟩,
  ⟨0x0f4ddcb3, .czeroEqz, .czeroEqz, { rd := 25, rs1 := 27, rs2 := 20 }⟩,
  ⟨0x0eeef133, .czeroNez, .czeroNez, { rd := 2, rs1 := 29, rs2 := 14 }⟩,
  ⟨0x300a8e33, .sm4ed, .sm4ed, { rd := 28, rs1 := 21 }⟩,
  ⟨0x74150633, .sm4ks, .sm4ks, { rd := 12, rs1 := 10, rs2 := 1, bs := 1 }⟩,
  ⟨0x335e8433, .aes64es, .aes64es, { rd := 8, rs1 := 29, rs2 := 21 }⟩,
  ⟨0x36bc0ab3, .aes64esm, .aes64esm, { rd := 21, rs1 := 24, rs2 := 11 }⟩,
  ⟨0x3a2200b3, .aes64ds, .aes64ds, { rd := 1, rs1 := 4, rs2 := 2 }⟩,
  ⟨0x3ea30eb3, .aes64dsm, .aes64dsm, { rd := 29, rs1 := 6, rs2 := 10 }⟩,
  ⟨0x7f550533, .aes64ks2, .aes64ks2, { rd := 10, rs1 := 10, rs2 := 21 }⟩,
  ⟨0x300f1e13, .aes64im, .aes64im, { rd := 28, rs1 := 30 }⟩,
  ⟨0x31379c93, .aes64ks1i, .aes64ks1i, { rd := 25, rs1 := 15, rnum := 3 }⟩,
  ⟨0x100d1a93, .sha256sum0, .sha256sum0, { rd := 21, rs1 := 26 }⟩,
  ⟨0x10159b93, .sha256sum1, .sha256sum1, { rd := 23, rs1 := 11 }⟩,
  ⟨0x10201a13, .sha256sig0, .sha256sig0, { rd := 20 }⟩,
  ⟨0x10369d93, .sha256sig1, .sha256sig1, { rd := 27, rs1 := 13 }⟩,
  ⟨0x10431793, .sha512sum0, .sha512sum0, { rd := 15, rs1 := 6 }⟩,
  ⟨0x10591f13, .sha512sum1, .sha512sum1, { rd := 30, rs1 := 18 }⟩,
  ⟨0x106b9d13, .sha512sig0, .sha512sig0, { rd := 26, rs1 := 23 }⟩,
  ⟨0x10739b13, .sha512sig1, .sha512sig1, { rd := 22, rs1 := 7 }⟩,
  ⟨0x108d9813, .sm3p0, .sm3p0, { rd := 16, rs1 := 27 }⟩,
  ⟨0x109c1013, .sm3p1, .sm3p1, { rs1 := 24 }⟩] = true := by decide +kernel

/-- The examples of R3047 to R3079 at XLEN 32 (spec/43). -/
theorem test_decode_bitmanip_3 : decodesAll .x32 {} [
  ⟨0x08f21e13, .zip, .zip, { rd := 28, rs1 := 4 }⟩,
  ⟨0x08fe5d93, .unzip, .unzip, { rd := 27, rs1 := 28 }⟩,
  ⟨0xa3b605b3, .aes32esi, .aes32esi, { rd := 11, rs1 := 12, rs2 := 27, bs := 2 }⟩,
  ⟨0xe7230033, .aes32esmi, .aes32esmi, { rs1 := 6, rs2 := 18, bs := 3 }⟩,
  ⟨0x6ab981b3, .aes32dsi, .aes32dsi, { rd := 3, rs1 := 19, rs2 := 11, bs := 1 }⟩,
  ⟨0xee7e8333, .aes32dsmi, .aes32dsmi, { rd := 6, rs1 := 29, rs2 := 7, bs := 3 }⟩,
  ⟨0x50a38733, .sha512sum0r, .sha512sum0r, { rd := 14, rs1 := 7, rs2 := 10 }⟩,
  ⟨0x526c8733, .sha512sum1r, .sha512sum1r, { rd := 14, rs1 := 25, rs2 := 6 }⟩,
  ⟨0x54b200b3, .sha512sig0l, .sha512sig0l, { rd := 1, rs1 := 4, rs2 := 11 }⟩,
  ⟨0x566d07b3, .sha512sig1l, .sha512sig1l, { rd := 15, rs1 := 26, rs2 := 6 }⟩,
  ⟨0x5cbd8cb3, .sha512sig0h, .sha512sig0h, { rd := 25, rs1 := 27, rs2 := 11 }⟩,
  ⟨0x5fd086b3, .sha512sig1h, .sha512sig1h, { rd := 13, rs1 := 1, rs2 := 29 }⟩] = true := by decide +kernel

/-- The examples of R4000 to R4045 at XLEN 64 (spec/44). -/
theorem test_decode_compressed_1 : decodesAll .x64 {} [
  ⟨0x13c0, .cAddi4spn, .addi, { rd := 8, rs1 := 2, imm := 484 }⟩,
  ⟨0x3e54, .cFld, .fld, { rd := 13, rs1 := 12, imm := 184 }⟩,
  ⟨0x5c80, .cLw, .lw, { rd := 8, rs1 := 9, imm := 56 }⟩,
  ⟨0x6654, .cLd, .ld, { rd := 13, rs1 := 12, imm := 136 }⟩,
  ⟨0x8260, .cLbu, .cLbu, { rd := 8, rs1 := 12, imm := 3 }⟩,
  ⟨0x8730, .cLhu, .cLhu, { rd := 12, rs1 := 14, imm := 2 }⟩,
  ⟨0x85c8, .cLh, .cLh, { rd := 10, rs1 := 11 }⟩,
  ⟨0x8a6c, .cSb, .cSb, { rs1 := 12, rs2 := 11, imm := 3 }⟩,
  ⟨0x8fac, .cSh, .cSh, { rs1 := 15, rs2 := 11, imm := 2 }⟩,
  ⟨0xb2d4, .cFsd, .fsd, { rs1 := 13, rs2 := 13, imm := 160 }⟩,
  ⟨0xc370, .cSw, .sw, { rs1 := 14, rs2 := 12, imm := 68 }⟩,
  ⟨0xfe54, .cSd, .sd, { rs1 := 12, rs2 := 13, imm := 184 }⟩,
  ⟨0x0001, .cNop, .nop, {}⟩,
  ⟨0x09a5, .cAddi, .addi, { rd := 19, rs1 := 19, imm := 9 }⟩,
  ⟨0x22d9, .cAddiw, .addiw, { rd := 5, rs1 := 5, imm := 22 }⟩,
  ⟨0x551d, .cLi, .li, { rd := 10, imm := -25 }⟩,
  ⟨0x7169, .cAddi16sp, .addi, { rd := 2, rs1 := 2, imm := -304 }⟩,
  ⟨0x6625, .cLui, .lui, { rd := 12, imm := 36864 }⟩,
  ⟨0x8091, .cSrli, .srli, { rd := 9, rs1 := 9, imm := 4 }⟩,
  ⟨0x9521, .cSrai, .srai, { rd := 10, rs1 := 10, imm := 40 }⟩,
  ⟨0x8ab1, .cAndi, .andi, { rd := 13, rs1 := 13, imm := 12 }⟩,
  ⟨0x8e09, .cSub, .sub, { rd := 12, rs1 := 12, rs2 := 10 }⟩,
  ⟨0x8cb9, .cXor, .xor, { rd := 9, rs1 := 9, rs2 := 14 }⟩,
  ⟨0x8c51, .cOr, .or, { rd := 8, rs1 := 8, rs2 := 12 }⟩,
  ⟨0x8f65, .cAnd, .and, { rd := 14, rs1 := 14, rs2 := 9 }⟩,
  ⟨0x9d1d, .cSubw, .subw, { rd := 10, rs1 := 10, rs2 := 15 }⟩,
  ⟨0x9f39, .cAddw, .addw, { rd := 14, rs1 := 14, rs2 := 14 }⟩,
  ⟨0x9fc1, .cMul, .cMul, { rd := 15, rs1 := 15, rs2 := 8 }⟩,
  ⟨0x9ee1, .cZextB, .cZextB, { rd := 13, rs1 := 13 }⟩,
  ⟨0x9de5, .cSextB, .cSextB, { rd := 11, rs1 := 11 }⟩,
  ⟨0x9de9, .cZextH, .cZextH, { rd := 11, rs1 := 11 }⟩,
  ⟨0x9ced, .cSextH, .cSextH, { rd := 9, rs1 := 9 }⟩,
  ⟨0x9cf1, .cZextW, .cZextW, { rd := 9, rs1 := 9 }⟩,
  ⟨0x9cf5, .cNot, .cNot, { rd := 9, rs1 := 9 }⟩,
  ⟨0xaffd, .cJ, .j, { imm := 2046 }⟩,
  ⟨0xc349, .cBeqz, .beqz, { rs1 := 14, imm := 130 }⟩,
  ⟨0xfb89, .cBnez, .bnez, { rs1 := 15, imm := -238 }⟩,
  ⟨0x041e, .cSlli, .slli, { rd := 8, rs1 := 8, imm := 7 }⟩,
  ⟨0x34de, .cFldsp, .fld, { rd := 9, rs1 := 2, imm := 496 }⟩,
  ⟨0x532a, .cLwsp, .lw, { rd := 6, rs1 := 2, imm := 168 }⟩] = true := by decide +kernel

/-- The examples of R4047 to R4057 at XLEN 64 (spec/44). -/
theorem test_decode_compressed_2 : decodesAll .x64 {} [
  ⟨0x7e92, .cLdsp, .ld, { rd := 29, rs1 := 2, imm := 288 }⟩,
  ⟨0x8182, .cJr, .jr, { rs1 := 3 }⟩,
  ⟨0x8632, .cMv, .mv, { rd := 12, rs1 := 12 }⟩,
  ⟨0x9002, .cEbreak, .ebreak, {}⟩,
  ⟨0x9302, .cJalr, .jalrP, { rd := 1, rs1 := 6 }⟩,
  ⟨0x9b3e, .cAdd, .add, { rd := 22, rs1 := 22, rs2 := 15 }⟩,
  ⟨0xbc62, .cFsdsp, .fsd, { rs1 := 2, rs2 := 24, imm := 56 }⟩,
  ⟨0xc332, .cSwsp, .sw, { rs1 := 2, rs2 := 12, imm := 132 }⟩,
  ⟨0xe11e, .cSdsp, .sd, { rs1 := 2, rs2 := 7, imm := 128 }⟩] = true := by decide +kernel

/-- The examples of R4002 to R4054 at XLEN 128 (spec/44). -/
theorem test_decode_compressed_3 : decodesAll .x128 {} [
  ⟨0x2310, .cLq, .lq, { rd := 12, rs1 := 14 }⟩,
  ⟨0xbae4, .cSq, .sq, { rs1 := 13, rs2 := 9, imm := 240 }⟩,
  ⟨0x30fe, .cLqsp, .lq, { rd := 1, rs1 := 2, imm := 1008 }⟩,
  ⟨0xb1fe, .cSqsp, .sq, { rs1 := 2, rs2 := 31, imm := 224 }⟩] = true := by decide +kernel

/-- The examples of R4004 to R4056 at XLEN 32 (spec/44). -/
theorem test_decode_compressed_4 : decodesAll .x32 {} [
  ⟨0x6b84, .cFlw, .flw, { rd := 9, rs1 := 15, imm := 16 }⟩,
  ⟨0xe818, .cFsw, .fsw, { rs1 := 8, rs2 := 14, imm := 16 }⟩,
  ⟨0x285d, .cJal, .jalP, { rd := 1, imm := 182 }⟩,
  ⟨0x6eda, .cFlwsp, .flw, { rd := 29, rs1 := 2, imm := 148 }⟩,
  ⟨0xe2fa, .cFswsp, .fsw, { rs1 := 2, rs2 := 30, imm := 68 }⟩] = true := by decide +kernel

/-- The examples of R4058 to R4063 at XLEN 64 with zcmp (spec/44). -/
theorem test_decode_compressed_5 : decodesAll .x64 { zcmp := true } [
  ⟨0xb8a2, .cmPush, .cmPush, { imm := -64, rlist := 10 }⟩,
  ⟨0xbad6, .cmPop, .cmPop, { imm := 96, rlist := 13 }⟩,
  ⟨0xbcd6, .cmPopretz, .cmPopretz, { imm := 96, rlist := 13 }⟩,
  ⟨0xbee2, .cmPopret, .cmPopret, { imm := 96, rlist := 14 }⟩,
  ⟨0xad3e, .cmMvsa01, .cmMvsa01, { rs1 := 18, rs2 := 23 }⟩,
  ⟨0xad7e, .cmMva01s, .cmMva01s, { rs1 := 18, rs2 := 23 }⟩] = true := by decide +kernel

/-- The examples of R4064 to R4065 at XLEN 64 with zcmt (spec/44). -/
theorem test_decode_compressed_6 : decodesAll .x64 { zcmt := true } [
  ⟨0xa06a, .cmJt, .cmJt, { imm := 26 }⟩,
  ⟨0xa276, .cmJalt, .cmJalt, { imm := 157 }⟩] = true := by decide +kernel

/-- The examples of R5000 to R5039 at XLEN 64 (spec/45). -/
theorem test_decode_vector_arith_1 : decodesAll .x64 {} [
  ⟨0x49237457, .vsetvli, .vsetvli, { rd := 8, rs1 := 6, vzimm := 1170 }⟩,
  ⟨0xeabf7bd7, .vsetivli, .vsetivli, { rd := 23, imm := 30, vzimm := 683 }⟩,
  ⟨0x80f57457, .vsetvl, .vsetvl, { rd := 8, rs1 := 10, rs2 := 15 }⟩,
  ⟨0x01580cd7, .vaddVv, .vaddVv, { rd := 25, rs1 := 16, rs2 := 21 }⟩,
  ⟨0x0295c257, .vaddVx, .vaddVx, { rd := 4, rs1 := 11, rs2 := 9, vm := 1 }⟩,
  ⟨0x026a3bd7, .vaddVi, .vaddVi, { rd := 23, rs2 := 6, imm := -12, vm := 1 }⟩,
  ⟨0x0be30757, .vsubVv, .vsubVv, { rd := 14, rs1 := 6, rs2 := 30, vm := 1 }⟩,
  ⟨0x08494f57, .vsubVx, .vsubVx, { rd := 30, rs1 := 18, rs2 := 4 }⟩,
  ⟨0x0dabccd7, .vrsubVx, .vrsubVx, { rd := 25, rs1 := 23, rs2 := 26 }⟩,
  ⟨0x0dc534d7, .vrsubVi, .vrsubVi, { rd := 9, rs2 := 28, imm := 10 }⟩,
  ⟨0x10b209d7, .vminuVv, .vminuVv, { rd := 19, rs1 := 4, rs2 := 11 }⟩,
  ⟨0x12b74fd7, .vminuVx, .vminuVx, { rd := 31, rs1 := 14, rs2 := 11, vm := 1 }⟩,
  ⟨0x14f88957, .vminVv, .vminVv, { rd := 18, rs1 := 17, rs2 := 15 }⟩,
  ⟨0x148148d7, .vminVx, .vminVx, { rd := 17, rs1 := 2, rs2 := 8 }⟩,
  ⟨0x18ed00d7, .vmaxuVv, .vmaxuVv, { rd := 1, rs1 := 26, rs2 := 14 }⟩,
  ⟨0x19dcc257, .vmaxuVx, .vmaxuVx, { rd := 4, rs1 := 25, rs2 := 29 }⟩,
  ⟨0x1d7d8057, .vmaxVv, .vmaxVv, { rs1 := 27, rs2 := 23 }⟩,
  ⟨0x1df24dd7, .vmaxVx, .vmaxVx, { rd := 27, rs1 := 4, rs2 := 31 }⟩,
  ⟨0x247f0957, .vandVv, .vandVv, { rd := 18, rs1 := 30, rs2 := 7 }⟩,
  ⟨0x245ccd57, .vandVx, .vandVx, { rd := 26, rs1 := 25, rs2 := 5 }⟩,
  ⟨0x26c23857, .vandVi, .vandVi, { rd := 16, rs2 := 12, imm := 4, vm := 1 }⟩,
  ⟨0x2b7c8857, .vorVv, .vorVv, { rd := 16, rs1 := 25, rs2 := 23, vm := 1 }⟩,
  ⟨0x29f5c6d7, .vorVx, .vorVx, { rd := 13, rs1 := 11, rs2 := 31 }⟩,
  ⟨0x28a2b8d7, .vorVi, .vorVi, { rd := 17, rs2 := 10, imm := 5 }⟩,
  ⟨0x2e8e8fd7, .vxorVv, .vxorVv, { rd := 31, rs1 := 29, rs2 := 8, vm := 1 }⟩,
  ⟨0x2f9d4757, .vxorVx, .vxorVx, { rd := 14, rs1 := 26, rs2 := 25, vm := 1 }⟩,
  ⟨0x2c8cb4d7, .vxorVi, .vxorVi, { rd := 9, rs2 := 8, imm := -7 }⟩,
  ⟨0x30ba8dd7, .vrgatherVv, .vrgatherVv, { rd := 27, rs1 := 21, rs2 := 11 }⟩,
  ⟨0x324d41d7, .vrgatherVx, .vrgatherVx, { rd := 3, rs1 := 26, rs2 := 4, vm := 1 }⟩,
  ⟨0x323cb057, .vrgatherVi, .vrgatherVi, { rs2 := 3, imm := 25, vm := 1 }⟩,
  ⟨0x3cc74ed7, .vslidedownVx, .vslidedownVx, { rd := 29, rs1 := 14, rs2 := 12 }⟩,
  ⟨0x3c6135d7, .vslidedownVi, .vslidedownVi, { rd := 11, rs2 := 6, imm := 2 }⟩,
  ⟨0x616d80d7, .vmseqVv, .vmseqVv, { rd := 1, rs1 := 27, rs2 := 22 }⟩,
  ⟨0x62ba43d7, .vmseqVx, .vmseqVx, { rd := 7, rs1 := 20, rs2 := 11, vm := 1 }⟩,
  ⟨0x6011b457, .vmseqVi, .vmseqVi, { rd := 8, rs2 := 1, imm := 3 }⟩,
  ⟨0x66108357, .vmsneVv, .vmsneVv, { rd := 6, rs1 := 1, rs2 := 1, vm := 1 }⟩,
  ⟨0x6407c7d7, .vmsneVx, .vmsneVx, { rd := 15, rs1 := 15 }⟩,
  ⟨0x66d6bfd7, .vmsneVi, .vmsneVi, { rd := 31, rs2 := 13, imm := 13, vm := 1 }⟩,
  ⟨0x68820b57, .vmsltuVv, .vmsltuVv, { rd := 22, rs1 := 4, rs2 := 8 }⟩,
  ⟨0x6bd445d7, .vmsltuVx, .vmsltuVx, { rd := 11, rs1 := 8, rs2 := 29, vm := 1 }⟩] = true := by decide +kernel

/-- The examples of R5040 to R5079 at XLEN 64 (spec/45). -/
theorem test_decode_vector_arith_2 : decodesAll .x64 {} [
  ⟨0x6ded0557, .vmsltVv, .vmsltVv, { rd := 10, rs1 := 26, rs2 := 30 }⟩,
  ⟨0x6f9dcdd7, .vmsltVx, .vmsltVx, { rd := 27, rs1 := 27, rs2 := 25, vm := 1 }⟩,
  ⟨0x73750b57, .vmsleuVv, .vmsleuVv, { rd := 22, rs1 := 10, rs2 := 23, vm := 1 }⟩,
  ⟨0x73f04bd7, .vmsleuVx, .vmsleuVx, { rd := 23, rs2 := 31, vm := 1 }⟩,
  ⟨0x7354b7d7, .vmsleuVi, .vmsleuVi, { rd := 15, rs2 := 21, imm := 9, vm := 1 }⟩,
  ⟨0x764488d7, .vmsleVv, .vmsleVv, { rd := 17, rs1 := 9, rs2 := 4, vm := 1 }⟩,
  ⟨0x748140d7, .vmsleVx, .vmsleVx, { rd := 1, rs1 := 2, rs2 := 8 }⟩,
  ⟨0x75883ed7, .vmsleVi, .vmsleVi, { rd := 29, rs2 := 24, imm := -16 }⟩,
  ⟨0x7a83cbd7, .vmsgtuVx, .vmsgtuVx, { rd := 23, rs1 := 7, rs2 := 8, vm := 1 }⟩,
  ⟨0x7b7ab557, .vmsgtuVi, .vmsgtuVi, { rd := 10, rs2 := 23, imm := -11, vm := 1 }⟩,
  ⟨0x7c8a4857, .vmsgtVx, .vmsgtVx, { rd := 16, rs1 := 20, rs2 := 8 }⟩,
  ⟨0x7e36bed7, .vmsgtVi, .vmsgtVi, { rd := 29, rs2 := 3, imm := 13, vm := 1 }⟩,
  ⟨0x81b205d7, .vsadduVv, .vsadduVv, { rd := 11, rs1 := 4, rs2 := 27 }⟩,
  ⟨0x829dc7d7, .vsadduVx, .vsadduVx, { rd := 15, rs1 := 27, rs2 := 9, vm := 1 }⟩,
  ⟨0x8386b457, .vsadduVi, .vsadduVi, { rd := 8, rs2 := 24, imm := 13, vm := 1 }⟩,
  ⟨0x87c500d7, .vsaddVv, .vsaddVv, { rd := 1, rs1 := 10, rs2 := 28, vm := 1 }⟩,
  ⟨0x849bc857, .vsaddVx, .vsaddVx, { rd := 16, rs1 := 23, rs2 := 9 }⟩,
  ⟨0x87b3b957, .vsaddVi, .vsaddVi, { rd := 18, rs2 := 27, imm := 7, vm := 1 }⟩,
  ⟨0x89910dd7, .vssubuVv, .vssubuVv, { rd := 27, rs1 := 2, rs2 := 25 }⟩,
  ⟨0x88f84857, .vssubuVx, .vssubuVx, { rd := 16, rs1 := 16, rs2 := 15 }⟩,
  ⟨0x8f048157, .vssubVv, .vssubVv, { rd := 2, rs1 := 9, rs2 := 16, vm := 1 }⟩,
  ⟨0x8c5d4557, .vssubVx, .vssubVx, { rd := 10, rs1 := 26, rs2 := 5 }⟩,
  ⟨0x96a504d7, .vsllVv, .vsllVv, { rd := 9, rs1 := 10, rs2 := 10, vm := 1 }⟩,
  ⟨0x94afcd57, .vsllVx, .vsllVx, { rd := 26, rs1 := 31, rs2 := 10 }⟩,
  ⟨0x95323c57, .vsllVi, .vsllVi, { rd := 24, rs2 := 19, imm := 4 }⟩,
  ⟨0x9c8589d7, .vsmulVv, .vsmulVv, { rd := 19, rs1 := 11, rs2 := 8 }⟩,
  ⟨0x9fe54ed7, .vsmulVx, .vsmulVx, { rd := 29, rs1 := 10, rs2 := 30, vm := 1 }⟩,
  ⟨0xa18404d7, .vsrlVv, .vsrlVv, { rd := 9, rs1 := 8, rs2 := 24 }⟩,
  ⟨0xa30a4dd7, .vsrlVx, .vsrlVx, { rd := 27, rs1 := 20, rs2 := 16, vm := 1 }⟩,
  ⟨0xa0343a57, .vsrlVi, .vsrlVi, { rd := 20, rs2 := 3, imm := 8 }⟩,
  ⟨0xa68e89d7, .vsraVv, .vsraVv, { rd := 19, rs1 := 29, rs2 := 8, vm := 1 }⟩,
  ⟨0xa75847d7, .vsraVx, .vsraVx, { rd := 15, rs1 := 16, rs2 := 21, vm := 1 }⟩,
  ⟨0xa44fb657, .vsraVi, .vsraVi, { rd := 12, rs2 := 4, imm := 31 }⟩,
  ⟨0xaafe87d7, .vssrlVv, .vssrlVv, { rd := 15, rs1 := 29, rs2 := 15, vm := 1 }⟩,
  ⟨0xabd3c957, .vssrlVx, .vssrlVx, { rd := 18, rs1 := 7, rs2 := 29, vm := 1 }⟩,
  ⟨0xaac7bd57, .vssrlVi, .vssrlVi, { rd := 26, rs2 := 12, imm := 15, vm := 1 }⟩,
  ⟨0xae3b0c57, .vssraVv, .vssraVv, { rd := 24, rs1 := 22, rs2 := 3, vm := 1 }⟩,
  ⟨0xae81c5d7, .vssraVx, .vssraVx, { rd := 11, rs1 := 3, rs2 := 8, vm := 1 }⟩,
  ⟨0xad6cb7d7, .vssraVi, .vssraVi, { rd := 15, rs2 := 22, imm := 25 }⟩,
  ⟨0xb0120457, .vnsrlWv, .vnsrlWv, { rd := 8, rs1 := 4, rs2 := 1 }⟩] = true := by decide +kernel

/-- The examples of R5080 to R5119 at XLEN 64 (spec/45). -/
theorem test_decode_vector_arith_3 : decodesAll .x64 {} [
  ⟨0xb1e34657, .vnsrlWx, .vnsrlWx, { rd := 12, rs1 := 6, rs2 := 30 }⟩,
  ⟨0xb29cbed7, .vnsrlWi, .vnsrlWi, { rd := 29, rs2 := 9, imm := 25, vm := 1 }⟩,
  ⟨0xb79301d7, .vnsraWv, .vnsraWv, { rd := 3, rs1 := 6, rs2 := 25, vm := 1 }⟩,
  ⟨0xb6dac7d7, .vnsraWx, .vnsraWx, { rd := 15, rs1 := 21, rs2 := 13, vm := 1 }⟩,
  ⟨0xb6fb31d7, .vnsraWi, .vnsraWi, { rd := 3, rs2 := 15, imm := 22, vm := 1 }⟩,
  ⟨0xb80880d7, .vnclipuWv, .vnclipuWv, { rd := 1, rs1 := 17 }⟩,
  ⟨0xb872cd57, .vnclipuWx, .vnclipuWx, { rd := 26, rs1 := 5, rs2 := 7 }⟩,
  ⟨0xb9ce3c57, .vnclipuWi, .vnclipuWi, { rd := 24, rs2 := 28, imm := 28 }⟩,
  ⟨0xbc928ed7, .vnclipWv, .vnclipWv, { rd := 29, rs1 := 5, rs2 := 9 }⟩,
  ⟨0xbc754857, .vnclipWx, .vnclipWx, { rd := 16, rs1 := 10, rs2 := 7 }⟩,
  ⟨0xbeddb5d7, .vnclipWi, .vnclipWi, { rd := 11, rs2 := 13, imm := 27, vm := 1 }⟩,
  ⟨0x38dc88d7, .vrgatherei16Vv, .vrgatherei16Vv, { rd := 17, rs1 := 25, rs2 := 13 }⟩,
  ⟨0x3ac2c6d7, .vslideupVx, .vslideupVx, { rd := 13, rs1 := 5, rs2 := 12, vm := 1 }⟩,
  ⟨0x3b2db457, .vslideupVi, .vslideupVi, { rd := 8, rs2 := 18, imm := 27, vm := 1 }⟩,
  ⟨0x40d68257, .vadcVvm, .vadcVvm, { rd := 4, rs1 := 13, rs2 := 13 }⟩,
  ⟨0x41724657, .vadcVxm, .vadcVxm, { rd := 12, rs1 := 4, rs2 := 23 }⟩,
  ⟨0x417f3157, .vadcVim, .vadcVim, { rd := 2, rs2 := 23, imm := -2 }⟩,
  ⟨0x44de8857, .vmadcVvm, .vmadcVvm, { rd := 16, rs1 := 29, rs2 := 13 }⟩,
  ⟨0x447bc657, .vmadcVxm, .vmadcVxm, { rd := 12, rs1 := 23, rs2 := 7 }⟩,
  ⟨0x450a38d7, .vmadcVim, .vmadcVim, { rd := 17, rs2 := 16, imm := -12 }⟩,
  ⟨0x474589d7, .vmadcVv, .vmadcVv, { rd := 19, rs1 := 11, rs2 := 20, vm := 1 }⟩,
  ⟨0x4642cfd7, .vmadcVx, .vmadcVx, { rd := 31, rs1 := 5, rs2 := 4, vm := 1 }⟩,
  ⟨0x460cb157, .vmadcVi, .vmadcVi, { rd := 2, imm := -7, vm := 1 }⟩,
  ⟨0x49608ed7, .vsbcVvm, .vsbcVvm, { rd := 29, rs1 := 1, rs2 := 22 }⟩,
  ⟨0x4827c957, .vsbcVxm, .vsbcVxm, { rd := 18, rs1 := 15, rs2 := 2 }⟩,
  ⟨0x4ddf8cd7, .vmsbcVvm, .vmsbcVvm, { rd := 25, rs1 := 31, rs2 := 29 }⟩,
  ⟨0x4d4ecc57, .vmsbcVxm, .vmsbcVxm, { rd := 24, rs1 := 29, rs2 := 20 }⟩,
  ⟨0x4fd10dd7, .vmsbcVv, .vmsbcVv, { rd := 27, rs1 := 2, rs2 := 29, vm := 1 }⟩,
  ⟨0x4fbec9d7, .vmsbcVx, .vmsbcVx, { rd := 19, rs1 := 29, rs2 := 27, vm := 1 }⟩,
  ⟨0x5d238857, .vmergeVvm, .vmergeVvm, { rd := 16, rs1 := 7, rs2 := 18 }⟩,
  ⟨0x5cb04c57, .vmergeVxm, .vmergeVxm, { rd := 24, rs2 := 11 }⟩,
  ⟨0x5ce13c57, .vmergeVim, .vmergeVim, { rd := 24, rs2 := 14, imm := 2 }⟩,
  ⟨0x5e0c8fd7, .vmvVV, .vmvVV, { rd := 31, rs1 := 25, vm := 1 }⟩,
  ⟨0x5e02c957, .vmvVX, .vmvVX, { rd := 18, rs1 := 5, vm := 1 }⟩,
  ⟨0x5e043f57, .vmvVI, .vmvVI, { rd := 30, imm := 8, vm := 1 }⟩,
  ⟨0x9f603fd7, .vmv1rV, .vmv1rV, { rd := 31, rs2 := 22, vm := 1 }⟩,
  ⟨0x9e40b557, .vmv2rV, .vmv2rV, { rd := 10, rs2 := 4, vm := 1 }⟩,
  ⟨0x9e41b6d7, .vmv4rV, .vmv4rV, { rd := 13, rs2 := 4, vm := 1 }⟩,
  ⟨0x9ff3b2d7, .vmv8rV, .vmv8rV, { rd := 5, rs2 := 31, vm := 1 }⟩,
  ⟨0xc2f20557, .vwredsumuVs, .vwredsumuVs, { rd := 10, rs1 := 4, rs2 := 15, vm := 1 }⟩] = true := by decide +kernel

/-- The examples of R5120 to R5159 at XLEN 64 (spec/45). -/
theorem test_decode_vector_arith_4 : decodesAll .x64 {} [
  ⟨0xc6cb83d7, .vwredsumVs, .vwredsumVs, { rd := 7, rs1 := 23, rs2 := 12, vm := 1 }⟩,
  ⟨0x0095a557, .vredsumVs, .vredsumVs, { rd := 10, rs1 := 11, rs2 := 9 }⟩,
  ⟨0x0623a057, .vredandVs, .vredandVs, { rs1 := 7, rs2 := 2, vm := 1 }⟩,
  ⟨0x0afc2e57, .vredorVs, .vredorVs, { rd := 28, rs1 := 24, rs2 := 15, vm := 1 }⟩,
  ⟨0x0d2c2fd7, .vredxorVs, .vredxorVs, { rd := 31, rs1 := 24, rs2 := 18 }⟩,
  ⟨0x113da1d7, .vredminuVs, .vredminuVs, { rd := 3, rs1 := 27, rs2 := 19 }⟩,
  ⟨0x1604add7, .vredminVs, .vredminVs, { rd := 27, rs1 := 9, vm := 1 }⟩,
  ⟨0x18f4a4d7, .vredmaxuVs, .vredmaxuVs, { rd := 9, rs1 := 9, rs2 := 15 }⟩,
  ⟨0x1e8b2ad7, .vredmaxVs, .vredmaxVs, { rd := 21, rs1 := 22, rs2 := 8, vm := 1 }⟩,
  ⟨0x23cb27d7, .vaadduVv, .vaadduVv, { rd := 15, rs1 := 22, rs2 := 28, vm := 1 }⟩,
  ⟨0x2348edd7, .vaadduVx, .vaadduVx, { rd := 27, rs1 := 17, rs2 := 20, vm := 1 }⟩,
  ⟨0x26d72cd7, .vaaddVv, .vaaddVv, { rd := 25, rs1 := 14, rs2 := 13, vm := 1 }⟩,
  ⟨0x26fd6457, .vaaddVx, .vaaddVx, { rd := 8, rs1 := 26, rs2 := 15, vm := 1 }⟩,
  ⟨0x2a0aa957, .vasubuVv, .vasubuVv, { rd := 18, rs1 := 21, vm := 1 }⟩,
  ⟨0x2ae3e457, .vasubuVx, .vasubuVx, { rd := 8, rs1 := 7, rs2 := 14, vm := 1 }⟩,
  ⟨0x2cfa2f57, .vasubVv, .vasubVv, { rd := 30, rs1 := 20, rs2 := 15 }⟩,
  ⟨0x2e94e8d7, .vasubVx, .vasubVx, { rd := 17, rs1 := 9, rs2 := 9, vm := 1 }⟩,
  ⟨0x8300ae57, .vdivuVv, .vdivuVv, { rd := 28, rs1 := 1, rs2 := 16, vm := 1 }⟩,
  ⟨0x811f63d7, .vdivuVx, .vdivuVx, { rd := 7, rs1 := 30, rs2 := 17 }⟩,
  ⟨0x85a22257, .vdivVv, .vdivVv, { rd := 4, rs1 := 4, rs2 := 26 }⟩,
  ⟨0x84cee7d7, .vdivVx, .vdivVx, { rd := 15, rs1 := 29, rs2 := 12 }⟩,
  ⟨0x89fcac57, .vremuVv, .vremuVv, { rd := 24, rs1 := 25, rs2 := 31 }⟩,
  ⟨0x8af9ec57, .vremuVx, .vremuVx, { rd := 24, rs1 := 19, rs2 := 15, vm := 1 }⟩,
  ⟨0x8e9c2fd7, .vremVv, .vremVv, { rd := 31, rs1 := 24, rs2 := 9, vm := 1 }⟩,
  ⟨0x8e6b63d7, .vremVx, .vremVx, { rd := 7, rs1 := 22, rs2 := 6, vm := 1 }⟩,
  ⟨0x92212fd7, .vmulhuVv, .vmulhuVv, { rd := 31, rs1 := 2, rs2 := 2, vm := 1 }⟩,
  ⟨0x93c1ead7, .vmulhuVx, .vmulhuVx, { rd := 21, rs1 := 3, rs2 := 28, vm := 1 }⟩,
  ⟨0x9429a2d7, .vmulVv, .vmulVv, { rd := 5, rs1 := 19, rs2 := 2 }⟩,
  ⟨0x953f6157, .vmulVx, .vmulVx, { rd := 2, rs1 := 30, rs2 := 19 }⟩,
  ⟨0x9a792cd7, .vmulhsuVv, .vmulhsuVv, { rd := 25, rs1 := 18, rs2 := 7, vm := 1 }⟩,
  ⟨0x9855e557, .vmulhsuVx, .vmulhsuVx, { rd := 10, rs1 := 11, rs2 := 5 }⟩,
  ⟨0x9ea52457, .vmulhVv, .vmulhVv, { rd := 8, rs1 := 10, rs2 := 10, vm := 1 }⟩,
  ⟨0x9f37e957, .vmulhVx, .vmulhVx, { rd := 18, rs1 := 15, rs2 := 19, vm := 1 }⟩,
  ⟨0xa7802bd7, .vmaddVv, .vmaddVv, { rd := 23, rs2 := 24, vm := 1 }⟩,
  ⟨0xa627e2d7, .vmaddVx, .vmaddVx, { rd := 5, rs1 := 15, rs2 := 2, vm := 1 }⟩,
  ⟨0xae702a57, .vnmsubVv, .vnmsubVv, { rd := 20, rs2 := 7, vm := 1 }⟩,
  ⟨0xad39e557, .vnmsubVx, .vnmsubVx, { rd := 10, rs1 := 19, rs2 := 19 }⟩,
  ⟨0xb4d02b57, .vmaccVv, .vmaccVv, { rd := 22, rs2 := 13 }⟩,
  ⟨0xb76de1d7, .vmaccVx, .vmaccVx, { rd := 3, rs1 := 27, rs2 := 22, vm := 1 }⟩,
  ⟨0xbc8e2257, .vnmsacVv, .vnmsacVv, { rd := 4, rs1 := 28, rs2 := 8 }⟩] = true := by decide +kernel

/-- The examples of R5160 to R5199 at XLEN 64 (spec/45). -/
theorem test_decode_vector_arith_5 : decodesAll .x64 {} [
  ⟨0xbe6766d7, .vnmsacVx, .vnmsacVx, { rd := 13, rs1 := 14, rs2 := 6, vm := 1 }⟩,
  ⟨0xc0fba4d7, .vwadduVv, .vwadduVv, { rd := 9, rs1 := 23, rs2 := 15 }⟩,
  ⟨0xc0b8e957, .vwadduVx, .vwadduVx, { rd := 18, rs1 := 17, rs2 := 11 }⟩,
  ⟨0xc779acd7, .vwaddVv, .vwaddVv, { rd := 25, rs1 := 19, rs2 := 23, vm := 1 }⟩,
  ⟨0xc50a6f57, .vwaddVx, .vwaddVx, { rd := 30, rs1 := 20, rs2 := 16 }⟩,
  ⟨0xcb63ac57, .vwsubuVv, .vwsubuVv, { rd := 24, rs1 := 7, rs2 := 22, vm := 1 }⟩,
  ⟨0xca2061d7, .vwsubuVx, .vwsubuVx, { rd := 3, rs2 := 2, vm := 1 }⟩,
  ⟨0xccc52cd7, .vwsubVv, .vwsubVv, { rd := 25, rs1 := 10, rs2 := 12 }⟩,
  ⟨0xce69e9d7, .vwsubVx, .vwsubVx, { rd := 19, rs1 := 19, rs2 := 6, vm := 1 }⟩,
  ⟨0xe3b0a4d7, .vwmuluVv, .vwmuluVv, { rd := 9, rs1 := 1, rs2 := 27, vm := 1 }⟩,
  ⟨0xe155e257, .vwmuluVx, .vwmuluVx, { rd := 4, rs1 := 11, rs2 := 21 }⟩,
  ⟨0xead8a4d7, .vwmulsuVv, .vwmulsuVv, { rd := 9, rs1 := 17, rs2 := 13, vm := 1 }⟩,
  ⟨0xea70edd7, .vwmulsuVx, .vwmulsuVx, { rd := 27, rs1 := 1, rs2 := 7, vm := 1 }⟩,
  ⟨0xee04a1d7, .vwmulVv, .vwmulVv, { rd := 3, rs1 := 9, vm := 1 }⟩,
  ⟨0xedb4e3d7, .vwmulVx, .vwmulVx, { rd := 7, rs1 := 9, rs2 := 27 }⟩,
  ⟨0xf14ba157, .vwmaccuVv, .vwmaccuVv, { rd := 2, rs1 := 23, rs2 := 20 }⟩,
  ⟨0xf3a46457, .vwmaccuVx, .vwmaccuVx, { rd := 8, rs1 := 8, rs2 := 26, vm := 1 }⟩,
  ⟨0xf51dadd7, .vwmaccVv, .vwmaccVv, { rd := 27, rs1 := 27, rs2 := 17 }⟩,
  ⟨0xf6266ad7, .vwmaccVx, .vwmaccVx, { rd := 21, rs1 := 12, rs2 := 2, vm := 1 }⟩,
  ⟨0xf94563d7, .vwmaccusVx, .vwmaccusVx, { rd := 7, rs1 := 10, rs2 := 20 }⟩,
  ⟨0xfe772057, .vwmaccsuVv, .vwmaccsuVv, { rs1 := 14, rs2 := 7, vm := 1 }⟩,
  ⟨0xfc2562d7, .vwmaccsuVx, .vwmaccsuVx, { rd := 5, rs1 := 10, rs2 := 2 }⟩,
  ⟨0xd2c6a057, .vwadduWv, .vwadduWv, { rs1 := 13, rs2 := 12, vm := 1 }⟩,
  ⟨0xd09361d7, .vwadduWx, .vwadduWx, { rd := 3, rs1 := 6, rs2 := 9 }⟩,
  ⟨0xd53c2e57, .vwaddWv, .vwaddWv, { rd := 28, rs1 := 24, rs2 := 19 }⟩,
  ⟨0xd74c61d7, .vwaddWx, .vwaddWx, { rd := 3, rs1 := 24, rs2 := 20, vm := 1 }⟩,
  ⟨0xd8b7a157, .vwsubuWv, .vwsubuWv, { rd := 2, rs1 := 15, rs2 := 11 }⟩,
  ⟨0xd80be3d7, .vwsubuWx, .vwsubuWx, { rd := 7, rs1 := 23 }⟩,
  ⟨0xdeb8aa57, .vwsubWv, .vwsubWv, { rd := 20, rs1 := 17, rs2 := 11, vm := 1 }⟩,
  ⟨0xdcf16dd7, .vwsubWx, .vwsubWx, { rd := 27, rs1 := 2, rs2 := 15 }⟩,
  ⟨0x3b3ce8d7, .vslide1upVx, .vslide1upVx, { rd := 17, rs1 := 25, rs2 := 19, vm := 1 }⟩,
  ⟨0x3dd36757, .vslide1downVx, .vslide1downVx, { rd := 14, rs1 := 6, rs2 := 29 }⟩,
  ⟨0x43602f57, .vmvXS, .vmvXS, { rd := 30, rs2 := 22, vm := 1 }⟩,
  ⟨0x41882bd7, .vcpopM, .vcpopM, { rd := 23, rs2 := 24 }⟩,
  ⟨0x43b8a1d7, .vfirstM, .vfirstM, { rd := 3, rs2 := 27, vm := 1 }⟩,
  ⟨0x420c6bd7, .vmvSX, .vmvSX, { rd := 23, rs1 := 24, vm := 1 }⟩,
  ⟨0x4b312557, .vzextVf8, .vzextVf8, { rd := 10, rs2 := 19, vm := 1 }⟩,
  ⟨0x4991a2d7, .vsextVf8, .vsextVf8, { rd := 5, rs2 := 25 }⟩,
  ⟨0x4b2223d7, .vzextVf4, .vzextVf4, { rd := 7, rs2 := 18, vm := 1 }⟩,
  ⟨0x4bf2a7d7, .vsextVf4, .vsextVf4, { rd := 15, rs2 := 31, vm := 1 }⟩] = true := by decide +kernel

/-- The examples of R5200 to R5239 at XLEN 64 (spec/45). -/
theorem test_decode_vector_arith_6 : decodesAll .x64 {} [
  ⟨0x48d32ed7, .vzextVf2, .vzextVf2, { rd := 29, rs2 := 13 }⟩,
  ⟨0x4af3a857, .vsextVf2, .vsextVf2, { rd := 16, rs2 := 15, vm := 1 }⟩,
  ⟨0x52f0aed7, .vmsbfM, .vmsbfM, { rd := 29, rs2 := 15, vm := 1 }⟩,
  ⟨0x513127d7, .vmsofM, .vmsofM, { rd := 15, rs2 := 19 }⟩,
  ⟨0x52d1a757, .vmsifM, .vmsifM, { rd := 14, rs2 := 13, vm := 1 }⟩,
  ⟨0x52a82157, .viotaM, .viotaM, { rd := 2, rs2 := 10, vm := 1 }⟩,
  ⟨0x5208a1d7, .vidV, .vidV, { rd := 3, vm := 1 }⟩,
  ⟨0x5e4422d7, .vcompressVm, .vcompressVm, { rd := 5, rs1 := 8, rs2 := 4, vm := 1 }⟩,
  ⟨0x62912457, .vmandnMm, .vmandnMm, { rd := 8, rs1 := 2, rs2 := 9, vm := 1 }⟩,
  ⟨0x66a72ed7, .vmandMm, .vmandMm, { rd := 29, rs1 := 14, rs2 := 10, vm := 1 }⟩,
  ⟨0x6be4a9d7, .vmorMm, .vmorMm, { rd := 19, rs1 := 9, rs2 := 30, vm := 1 }⟩,
  ⟨0x6f0328d7, .vmxorMm, .vmxorMm, { rd := 17, rs1 := 6, rs2 := 16, vm := 1 }⟩,
  ⟨0x7286aed7, .vmornMm, .vmornMm, { rd := 29, rs1 := 13, rs2 := 8, vm := 1 }⟩,
  ⟨0x76682257, .vmnandMm, .vmnandMm, { rd := 4, rs1 := 16, rs2 := 6, vm := 1 }⟩,
  ⟨0x7ba926d7, .vmnorMm, .vmnorMm, { rd := 13, rs1 := 18, rs2 := 26, vm := 1 }⟩,
  ⟨0x7faba457, .vmxnorMm, .vmxnorMm, { rd := 8, rs1 := 23, rs2 := 26, vm := 1 }⟩,
  ⟨0x03ad9857, .vfaddVv, .vfaddVv, { rd := 16, rs1 := 27, rs2 := 26, vm := 1 }⟩,
  ⟨0x03d5d0d7, .vfaddVf, .vfaddVf, { rd := 1, rs1 := 11, rs2 := 29, vm := 1 }⟩,
  ⟨0x097197d7, .vfsubVv, .vfsubVv, { rd := 15, rs1 := 3, rs2 := 23 }⟩,
  ⟨0x09ac5c57, .vfsubVf, .vfsubVf, { rd := 24, rs1 := 24, rs2 := 26 }⟩,
  ⟨0x104f9a57, .vfminVv, .vfminVv, { rd := 20, rs1 := 31, rs2 := 4 }⟩,
  ⟨0x13b75457, .vfminVf, .vfminVf, { rd := 8, rs1 := 14, rs2 := 27, vm := 1 }⟩,
  ⟨0x1b9095d7, .vfmaxVv, .vfmaxVv, { rd := 11, rs1 := 1, rs2 := 25, vm := 1 }⟩,
  ⟨0x1bdcd257, .vfmaxVf, .vfmaxVf, { rd := 4, rs1 := 25, rs2 := 29, vm := 1 }⟩,
  ⟨0x23c01b57, .vfsgnjVv, .vfsgnjVv, { rd := 22, rs2 := 28, vm := 1 }⟩,
  ⟨0x20e15ed7, .vfsgnjVf, .vfsgnjVf, { rd := 29, rs1 := 2, rs2 := 14 }⟩,
  ⟨0x26ff1cd7, .vfsgnjnVv, .vfsgnjnVv, { rd := 25, rs1 := 30, rs2 := 15, vm := 1 }⟩,
  ⟨0x27dad8d7, .vfsgnjnVf, .vfsgnjnVf, { rd := 17, rs1 := 21, rs2 := 29, vm := 1 }⟩,
  ⟨0x2b961f57, .vfsgnjxVv, .vfsgnjxVv, { rd := 30, rs1 := 12, rs2 := 25, vm := 1 }⟩,
  ⟨0x2a53d857, .vfsgnjxVf, .vfsgnjxVf, { rd := 16, rs1 := 7, rs2 := 5, vm := 1 }⟩,
  ⟨0x3bfe55d7, .vfslide1upVf, .vfslide1upVf, { rd := 11, rs1 := 28, rs2 := 31, vm := 1 }⟩,
  ⟨0x3d9c5cd7, .vfslide1downVf, .vfslide1downVf, { rd := 25, rs1 := 24, rs2 := 25 }⟩,
  ⟨0x607d1a57, .vmfeqVv, .vmfeqVv, { rd := 20, rs1 := 26, rs2 := 7 }⟩,
  ⟨0x6306dfd7, .vmfeqVf, .vmfeqVf, { rd := 31, rs1 := 13, rs2 := 16, vm := 1 }⟩,
  ⟨0x65989cd7, .vmfleVv, .vmfleVv, { rd := 25, rs1 := 17, rs2 := 25 }⟩,
  ⟨0x648bdf57, .vmfleVf, .vmfleVf, { rd := 30, rs1 := 23, rs2 := 8 }⟩,
  ⟨0x6d899857, .vmfltVv, .vmfltVv, { rd := 16, rs1 := 19, rs2 := 24 }⟩,
  ⟨0x6fccdcd7, .vmfltVf, .vmfltVf, { rd := 25, rs1 := 25, rs2 := 28, vm := 1 }⟩,
  ⟨0x72b293d7, .vmfneVv, .vmfneVv, { rd := 7, rs1 := 5, rs2 := 11, vm := 1 }⟩,
  ⟨0x728cdd57, .vmfneVf, .vmfneVf, { rd := 26, rs1 := 25, rs2 := 8, vm := 1 }⟩] = true := by decide +kernel

/-- The examples of R5240 to R5279 at XLEN 64 (spec/45). -/
theorem test_decode_vector_arith_7 : decodesAll .x64 {} [
  ⟨0x76b9d357, .vmfgtVf, .vmfgtVf, { rd := 6, rs1 := 19, rs2 := 11, vm := 1 }⟩,
  ⟨0x7e885357, .vmfgeVf, .vmfgeVf, { rd := 6, rs1 := 16, rs2 := 8, vm := 1 }⟩,
  ⟨0x81cf9c57, .vfdivVv, .vfdivVv, { rd := 24, rs1 := 31, rs2 := 28 }⟩,
  ⟨0x81865c57, .vfdivVf, .vfdivVf, { rd := 24, rs1 := 12, rs2 := 24 }⟩,
  ⟨0x844e55d7, .vfrdivVf, .vfrdivVf, { rd := 11, rs1 := 28, rs2 := 4 }⟩,
  ⟨0x927b18d7, .vfmulVv, .vfmulVv, { rd := 17, rs1 := 22, rs2 := 7, vm := 1 }⟩,
  ⟨0x92bdd357, .vfmulVf, .vfmulVf, { rd := 6, rs1 := 27, rs2 := 11, vm := 1 }⟩,
  ⟨0x9dc3d857, .vfrsubVf, .vfrsubVf, { rd := 16, rs1 := 7, rs2 := 28 }⟩,
  ⟨0xa2739657, .vfmaddVv, .vfmaddVv, { rd := 12, rs1 := 7, rs2 := 7, vm := 1 }⟩,
  ⟨0xa0405d57, .vfmaddVf, .vfmaddVf, { rd := 26, rs2 := 4 }⟩,
  ⟨0xa6519ed7, .vfnmaddVv, .vfnmaddVv, { rd := 29, rs1 := 3, rs2 := 5, vm := 1 }⟩,
  ⟨0xa666ded7, .vfnmaddVf, .vfnmaddVf, { rd := 29, rs1 := 13, rs2 := 6, vm := 1 }⟩,
  ⟨0xaa0993d7, .vfmsubVv, .vfmsubVv, { rd := 7, rs1 := 19, vm := 1 }⟩,
  ⟨0xab58d657, .vfmsubVf, .vfmsubVf, { rd := 12, rs1 := 17, rs2 := 21, vm := 1 }⟩,
  ⟨0xadd29dd7, .vfnmsubVv, .vfnmsubVv, { rd := 27, rs1 := 5, rs2 := 29 }⟩,
  ⟨0xaff55957, .vfnmsubVf, .vfnmsubVf, { rd := 18, rs1 := 10, rs2 := 31, vm := 1 }⟩,
  ⟨0xb1be9ad7, .vfmaccVv, .vfmaccVv, { rd := 21, rs1 := 29, rs2 := 27 }⟩,
  ⟨0xb29ed657, .vfmaccVf, .vfmaccVf, { rd := 12, rs1 := 29, rs2 := 9, vm := 1 }⟩,
  ⟨0xb6269e57, .vfnmaccVv, .vfnmaccVv, { rd := 28, rs1 := 13, rs2 := 2, vm := 1 }⟩,
  ⟨0xb4715957, .vfnmaccVf, .vfnmaccVf, { rd := 18, rs1 := 2, rs2 := 7 }⟩,
  ⟨0xbbfc1dd7, .vfmsacVv, .vfmsacVv, { rd := 27, rs1 := 24, rs2 := 31, vm := 1 }⟩,
  ⟨0xb8d35057, .vfmsacVf, .vfmsacVf, { rs1 := 6, rs2 := 13 }⟩,
  ⟨0xbdc29157, .vfnmsacVv, .vfnmsacVv, { rd := 2, rs1 := 5, rs2 := 28 }⟩,
  ⟨0xbc975557, .vfnmsacVf, .vfnmsacVf, { rd := 10, rs1 := 14, rs2 := 9 }⟩,
  ⟨0xc02d1457, .vfwaddVv, .vfwaddVv, { rd := 8, rs1 := 26, rs2 := 2 }⟩,
  ⟨0xc16f52d7, .vfwaddVf, .vfwaddVf, { rd := 5, rs1 := 30, rs2 := 22 }⟩,
  ⟨0xc95015d7, .vfwsubVv, .vfwsubVv, { rd := 11, rs2 := 21 }⟩,
  ⟨0xc87c5257, .vfwsubVf, .vfwsubVf, { rd := 4, rs1 := 24, rs2 := 7 }⟩,
  ⟨0xe19490d7, .vfwmulVv, .vfwmulVv, { rd := 1, rs1 := 9, rs2 := 25 }⟩,
  ⟨0xe21ed257, .vfwmulVf, .vfwmulVf, { rd := 4, rs1 := 29, rs2 := 1, vm := 1 }⟩,
  ⟨0xf19f93d7, .vfwmaccVv, .vfwmaccVv, { rd := 7, rs1 := 31, rs2 := 25 }⟩,
  ⟨0xf0a95057, .vfwmaccVf, .vfwmaccVf, { rs1 := 18, rs2 := 10 }⟩,
  ⟨0xf7371a57, .vfwnmaccVv, .vfwnmaccVv, { rd := 20, rs1 := 14, rs2 := 19, vm := 1 }⟩,
  ⟨0xf579d957, .vfwnmaccVf, .vfwnmaccVf, { rd := 18, rs1 := 19, rs2 := 23 }⟩,
  ⟨0xfb179a57, .vfwmsacVv, .vfwmsacVv, { rd := 20, rs1 := 15, rs2 := 17, vm := 1 }⟩,
  ⟨0xfa42db57, .vfwmsacVf, .vfwmsacVf, { rd := 22, rs1 := 5, rs2 := 4, vm := 1 }⟩,
  ⟨0xfe9219d7, .vfwnmsacVv, .vfwnmsacVv, { rd := 19, rs1 := 4, rs2 := 9, vm := 1 }⟩,
  ⟨0xfe5add57, .vfwnmsacVf, .vfwnmsacVf, { rd := 26, rs1 := 21, rs2 := 5, vm := 1 }⟩,
  ⟨0x07289f57, .vfredusumVs, .vfredusumVs, { rd := 30, rs1 := 17, rs2 := 18, vm := 1 }⟩,
  ⟨0x0dcf1857, .vfredosumVs, .vfredosumVs, { rd := 16, rs1 := 30, rs2 := 28 }⟩] = true := by decide +kernel

/-- The examples of R5280 to R5316 at XLEN 64 (spec/45). -/
theorem test_decode_vector_arith_8 : decodesAll .x64 {} [
  ⟨0x14881ed7, .vfredminVs, .vfredminVs, { rd := 29, rs1 := 16, rs2 := 8 }⟩,
  ⟨0x1ce59f57, .vfredmaxVs, .vfredmaxVs, { rd := 30, rs1 := 11, rs2 := 14 }⟩,
  ⟨0xc6071bd7, .vfwredusumVs, .vfwredusumVs, { rd := 23, rs1 := 14, vm := 1 }⟩,
  ⟨0xcdae1057, .vfwredosumVs, .vfwredosumVs, { rs1 := 28, rs2 := 26 }⟩,
  ⟨0xd3979657, .vfwaddWv, .vfwaddWv, { rd := 12, rs1 := 15, rs2 := 25, vm := 1 }⟩,
  ⟨0xd3f75157, .vfwaddWf, .vfwaddWf, { rd := 2, rs1 := 14, rs2 := 31, vm := 1 }⟩,
  ⟨0xd8449bd7, .vfwsubWv, .vfwsubWv, { rd := 23, rs1 := 9, rs2 := 4 }⟩,
  ⟨0xdbe2d757, .vfwsubWf, .vfwsubWf, { rd := 14, rs1 := 5, rs2 := 30, vm := 1 }⟩,
  ⟨0x42101dd7, .vfmvFS, .vfmvFS, { rd := 27, rs2 := 1, vm := 1 }⟩,
  ⟨0x4202d9d7, .vfmvSF, .vfmvSF, { rd := 19, rs1 := 5, vm := 1 }⟩,
  ⟨0x49701d57, .vfcvtXuFV, .vfcvtXuFV, { rd := 26, rs2 := 23 }⟩,
  ⟨0x48c09b57, .vfcvtXFV, .vfcvtXFV, { rd := 22, rs2 := 12 }⟩,
  ⟨0x49c114d7, .vfcvtFXuV, .vfcvtFXuV, { rd := 9, rs2 := 28 }⟩,
  ⟨0x4af19dd7, .vfcvtFXV, .vfcvtFXV, { rd := 27, rs2 := 15, vm := 1 }⟩,
  ⟨0x489318d7, .vfcvtRtzXuFV, .vfcvtRtzXuFV, { rd := 17, rs2 := 9 }⟩,
  ⟨0x49f39657, .vfcvtRtzXFV, .vfcvtRtzXFV, { rd := 12, rs2 := 31 }⟩,
  ⟨0x4aa415d7, .vfwcvtXuFV, .vfwcvtXuFV, { rd := 11, rs2 := 10, vm := 1 }⟩,
  ⟨0x4a549957, .vfwcvtXFV, .vfwcvtXFV, { rd := 18, rs2 := 5, vm := 1 }⟩,
  ⟨0x48e51457, .vfwcvtFXuV, .vfwcvtFXuV, { rd := 8, rs2 := 14 }⟩,
  ⟨0x48159dd7, .vfwcvtFXV, .vfwcvtFXV, { rd := 27, rs2 := 1 }⟩,
  ⟨0x49e61f57, .vfwcvtFFV, .vfwcvtFFV, { rd := 30, rs2 := 30 }⟩,
  ⟨0x48f71857, .vfwcvtRtzXuFV, .vfwcvtRtzXuFV, { rd := 16, rs2 := 15 }⟩,
  ⟨0x48579457, .vfwcvtRtzXFV, .vfwcvtRtzXFV, { rd := 8, rs2 := 5 }⟩,
  ⟨0x4b781257, .vfncvtXuFW, .vfncvtXuFW, { rd := 4, rs2 := 23, vm := 1 }⟩,
  ⟨0x4b7890d7, .vfncvtXFW, .vfncvtXFW, { rd := 1, rs2 := 23, vm := 1 }⟩,
  ⟨0x4be91957, .vfncvtFXuW, .vfncvtFXuW, { rd := 18, rs2 := 30, vm := 1 }⟩,
  ⟨0x48899ad7, .vfncvtFXW, .vfncvtFXW, { rd := 21, rs2 := 8 }⟩,
  ⟨0x4a0a1857, .vfncvtFFW, .vfncvtFFW, { rd := 16, vm := 1 }⟩,
  ⟨0x48fa94d7, .vfncvtRodFFW, .vfncvtRodFFW, { rd := 9, rs2 := 15 }⟩,
  ⟨0x4bdb10d7, .vfncvtRtzXuFW, .vfncvtRtzXuFW, { rd := 1, rs2 := 29, vm := 1 }⟩,
  ⟨0x4a9b9c57, .vfncvtRtzXFW, .vfncvtRtzXFW, { rd := 24, rs2 := 9, vm := 1 }⟩,
  ⟨0x4fb01c57, .vfsqrtV, .vfsqrtV, { rd := 24, rs2 := 27, vm := 1 }⟩,
  ⟨0x4f621357, .vfrsqrt7V, .vfrsqrt7V, { rd := 6, rs2 := 22, vm := 1 }⟩,
  ⟨0x4f929dd7, .vfrec7V, .vfrec7V, { rd := 27, rs2 := 25, vm := 1 }⟩,
  ⟨0x4f381657, .vfclassV, .vfclassV, { rd := 12, rs2 := 19, vm := 1 }⟩,
  ⟨0x5dc35bd7, .vfmergeVfm, .vfmergeVfm, { rd := 23, rs1 := 6, rs2 := 28 }⟩,
  ⟨0x5e0c5357, .vfmvVF, .vfmvVF, { rd := 6, rs1 := 24, vm := 1 }⟩] = true := by decide +kernel

/-- The examples of R6000 to R6039 at XLEN 64 (spec/46). -/
theorem test_decode_vector_ldst_1 : decodesAll .x64 {} [
  ⟨0x02000387, .vle8V, .vle8V, { rd := 7, vm := 1 }⟩,
  ⟨0x01010107, .vle8ffV, .vle8ffV, { rd := 2, rs1 := 2 }⟩,
  ⟨0x00008d27, .vse8V, .vse8V, { rd := 26, rs1 := 1 }⟩,
  ⟨0x085b0287, .vlse8V, .vlse8V, { rd := 5, rs1 := 22, rs2 := 5 }⟩,
  ⟨0x0b1a8627, .vsse8V, .vsse8V, { rd := 12, rs1 := 21, rs2 := 17, vm := 1 }⟩,
  ⟨0x07df0e07, .vluxei8V, .vluxei8V, { rd := 28, rs1 := 30, rs2 := 29, vm := 1 }⟩,
  ⟨0x05070927, .vsuxei8V, .vsuxei8V, { rd := 18, rs1 := 14, rs2 := 16 }⟩,
  ⟨0x0e598787, .vloxei8V, .vloxei8V, { rd := 15, rs1 := 19, rs2 := 5, vm := 1 }⟩,
  ⟨0x0ec183a7, .vsoxei8V, .vsoxei8V, { rd := 7, rs1 := 3, rs2 := 12, vm := 1 }⟩,
  ⟨0x20068687, .vlseg2e8V, .vlseg2e8V, { rd := 13, rs1 := 13 }⟩,
  ⟨0x23040487, .vlseg2e8ffV, .vlseg2e8ffV, { rd := 9, rs1 := 8, vm := 1 }⟩,
  ⟨0x20020ea7, .vsseg2e8V, .vsseg2e8V, { rd := 29, rs1 := 4 }⟩,
  ⟨0x29d80f87, .vlsseg2e8V, .vlsseg2e8V, { rd := 31, rs1 := 16, rs2 := 29 }⟩,
  ⟨0x2aa90ea7, .vssseg2e8V, .vssseg2e8V, { rd := 29, rs1 := 18, rs2 := 10, vm := 1 }⟩,
  ⟨0x24888007, .vluxseg2ei8V, .vluxseg2ei8V, { rs1 := 17, rs2 := 8 }⟩,
  ⟨0x276301a7, .vsuxseg2ei8V, .vsuxseg2ei8V, { rd := 3, rs1 := 6, rs2 := 22, vm := 1 }⟩,
  ⟨0x2d8d0487, .vloxseg2ei8V, .vloxseg2ei8V, { rd := 9, rs1 := 26, rs2 := 24 }⟩,
  ⟨0x2edd8727, .vsoxseg2ei8V, .vsoxseg2ei8V, { rd := 14, rs1 := 27, rs2 := 13, vm := 1 }⟩,
  ⟨0x40040507, .vlseg3e8V, .vlseg3e8V, { rd := 10, rs1 := 8 }⟩,
  ⟨0x41010f07, .vlseg3e8ffV, .vlseg3e8ffV, { rd := 30, rs1 := 2 }⟩,
  ⟨0x40028627, .vsseg3e8V, .vsseg3e8V, { rd := 12, rs1 := 5 }⟩,
  ⟨0x4a8a0807, .vlsseg3e8V, .vlsseg3e8V, { rd := 16, rs1 := 20, rs2 := 8, vm := 1 }⟩,
  ⟨0x4b2d8727, .vssseg3e8V, .vssseg3e8V, { rd := 14, rs1 := 27, rs2 := 18, vm := 1 }⟩,
  ⟨0x45c18307, .vluxseg3ei8V, .vluxseg3ei8V, { rd := 6, rs1 := 3, rs2 := 28 }⟩,
  ⟨0x440c0da7, .vsuxseg3ei8V, .vsuxseg3ei8V, { rd := 27, rs1 := 24 }⟩,
  ⟨0x4c448207, .vloxseg3ei8V, .vloxseg3ei8V, { rd := 4, rs1 := 9, rs2 := 4 }⟩,
  ⟨0x4f1488a7, .vsoxseg3ei8V, .vsoxseg3ei8V, { rd := 17, rs1 := 9, rs2 := 17, vm := 1 }⟩,
  ⟨0x62030387, .vlseg4e8V, .vlseg4e8V, { rd := 7, rs1 := 6, vm := 1 }⟩,
  ⟨0x630c0a07, .vlseg4e8ffV, .vlseg4e8ffV, { rd := 20, rs1 := 24, vm := 1 }⟩,
  ⟨0x600109a7, .vsseg4e8V, .vsseg4e8V, { rd := 19, rs1 := 2 }⟩,
  ⟨0x6b2b0787, .vlsseg4e8V, .vlsseg4e8V, { rd := 15, rs1 := 22, rs2 := 18, vm := 1 }⟩,
  ⟨0x6bd206a7, .vssseg4e8V, .vssseg4e8V, { rd := 13, rs1 := 4, rs2 := 29, vm := 1 }⟩,
  ⟨0x65a30d87, .vluxseg4ei8V, .vluxseg4ei8V, { rd := 27, rs1 := 6, rs2 := 26 }⟩,
  ⟨0x654c82a7, .vsuxseg4ei8V, .vsuxseg4ei8V, { rd := 5, rs1 := 25, rs2 := 20 }⟩,
  ⟨0x6ec80407, .vloxseg4ei8V, .vloxseg4ei8V, { rd := 8, rs1 := 16, rs2 := 12, vm := 1 }⟩,
  ⟨0x6f088027, .vsoxseg4ei8V, .vsoxseg4ei8V, { rs1 := 17, rs2 := 16, vm := 1 }⟩,
  ⟨0x800e0287, .vlseg5e8V, .vlseg5e8V, { rd := 5, rs1 := 28 }⟩,
  ⟨0x81058107, .vlseg5e8ffV, .vlseg5e8ffV, { rd := 2, rs1 := 11 }⟩,
  ⟨0x820e0a27, .vsseg5e8V, .vsseg5e8V, { rd := 20, rs1 := 28, vm := 1 }⟩,
  ⟨0x8b448507, .vlsseg5e8V, .vlsseg5e8V, { rd := 10, rs1 := 9, rs2 := 20, vm := 1 }⟩] = true := by decide +kernel

/-- The examples of R6040 to R6079 at XLEN 64 (spec/46). -/
theorem test_decode_vector_ldst_2 : decodesAll .x64 {} [
  ⟨0x8b4a0a27, .vssseg5e8V, .vssseg5e8V, { rd := 20, rs1 := 20, rs2 := 20, vm := 1 }⟩,
  ⟨0x87a80687, .vluxseg5ei8V, .vluxseg5ei8V, { rd := 13, rs1 := 16, rs2 := 26, vm := 1 }⟩,
  ⟨0x85ea8aa7, .vsuxseg5ei8V, .vsuxseg5ei8V, { rd := 21, rs1 := 21, rs2 := 30 }⟩,
  ⟨0x8ef08b07, .vloxseg5ei8V, .vloxseg5ei8V, { rd := 22, rs1 := 1, rs2 := 15, vm := 1 }⟩,
  ⟨0x8cac8127, .vsoxseg5ei8V, .vsoxseg5ei8V, { rd := 2, rs1 := 25, rs2 := 10 }⟩,
  ⟨0xa0010087, .vlseg6e8V, .vlseg6e8V, { rd := 1, rs1 := 2 }⟩,
  ⟨0xa3050407, .vlseg6e8ffV, .vlseg6e8ffV, { rd := 8, rs1 := 10, vm := 1 }⟩,
  ⟨0xa00f8227, .vsseg6e8V, .vsseg6e8V, { rd := 4, rs1 := 31 }⟩,
  ⟨0xaa1d0607, .vlsseg6e8V, .vlsseg6e8V, { rd := 12, rs1 := 26, rs2 := 1, vm := 1 }⟩,
  ⟨0xa81107a7, .vssseg6e8V, .vssseg6e8V, { rd := 15, rs1 := 2, rs2 := 1 }⟩,
  ⟨0xa4238b87, .vluxseg6ei8V, .vluxseg6ei8V, { rd := 23, rs1 := 7, rs2 := 2 }⟩,
  ⟨0xa4358aa7, .vsuxseg6ei8V, .vsuxseg6ei8V, { rd := 21, rs1 := 11, rs2 := 3 }⟩,
  ⟨0xad2d8107, .vloxseg6ei8V, .vloxseg6ei8V, { rd := 2, rs1 := 27, rs2 := 18 }⟩,
  ⟨0xaf5f8c27, .vsoxseg6ei8V, .vsoxseg6ei8V, { rd := 24, rs1 := 31, rs2 := 21, vm := 1 }⟩,
  ⟨0xc2090b87, .vlseg7e8V, .vlseg7e8V, { rd := 23, rs1 := 18, vm := 1 }⟩,
  ⟨0xc30b0987, .vlseg7e8ffV, .vlseg7e8ffV, { rd := 19, rs1 := 22, vm := 1 }⟩,
  ⟨0xc00284a7, .vsseg7e8V, .vsseg7e8V, { rd := 9, rs1 := 5 }⟩,
  ⟨0xcac08b87, .vlsseg7e8V, .vlsseg7e8V, { rd := 23, rs1 := 1, rs2 := 12, vm := 1 }⟩,
  ⟨0xca538027, .vssseg7e8V, .vssseg7e8V, { rs1 := 7, rs2 := 5, vm := 1 }⟩,
  ⟨0xc44b8087, .vluxseg7ei8V, .vluxseg7ei8V, { rd := 1, rs1 := 23, rs2 := 4 }⟩,
  ⟨0xc6e689a7, .vsuxseg7ei8V, .vsuxseg7ei8V, { rd := 19, rs1 := 13, rs2 := 14, vm := 1 }⟩,
  ⟨0xcc580207, .vloxseg7ei8V, .vloxseg7ei8V, { rd := 4, rs1 := 16, rs2 := 5 }⟩,
  ⟨0xcf4e85a7, .vsoxseg7ei8V, .vsoxseg7ei8V, { rd := 11, rs1 := 29, rs2 := 20, vm := 1 }⟩,
  ⟨0xe2028007, .vlseg8e8V, .vlseg8e8V, { rs1 := 5, vm := 1 }⟩,
  ⟨0xe1080387, .vlseg8e8ffV, .vlseg8e8ffV, { rd := 7, rs1 := 16 }⟩,
  ⟨0xe00407a7, .vsseg8e8V, .vsseg8e8V, { rd := 15, rs1 := 8 }⟩,
  ⟨0xe9fe8487, .vlsseg8e8V, .vlsseg8e8V, { rd := 9, rs1 := 29, rs2 := 31 }⟩,
  ⟨0xeb3b0da7, .vssseg8e8V, .vssseg8e8V, { rd := 27, rs1 := 22, rs2 := 19, vm := 1 }⟩,
  ⟨0xe67f0d87, .vluxseg8ei8V, .vluxseg8ei8V, { rd := 27, rs1 := 30, rs2 := 7, vm := 1 }⟩,
  ⟨0xe5da05a7, .vsuxseg8ei8V, .vsuxseg8ei8V, { rd := 11, rs1 := 20, rs2 := 29 }⟩,
  ⟨0xecd48e07, .vloxseg8ei8V, .vloxseg8ei8V, { rd := 28, rs1 := 9, rs2 := 13 }⟩,
  ⟨0xecae03a7, .vsoxseg8ei8V, .vsoxseg8ei8V, { rd := 7, rs1 := 28, rs2 := 10 }⟩,
  ⟨0x028b8f07, .vl1re8V, .vl1re8V, { rd := 30, rs1 := 23, vm := 1 }⟩,
  ⟨0x228b0607, .vl2re8V, .vl2re8V, { rd := 12, rs1 := 22, vm := 1 }⟩,
  ⟨0x628f8d87, .vl4re8V, .vl4re8V, { rd := 27, rs1 := 31, vm := 1 }⟩,
  ⟨0xe28e8187, .vl8re8V, .vl8re8V, { rd := 3, rs1 := 29, vm := 1 }⟩,
  ⟨0x020a5787, .vle16V, .vle16V, { rd := 15, rs1 := 20, vm := 1 }⟩,
  ⟨0x010ed287, .vle16ffV, .vle16ffV, { rd := 5, rs1 := 29 }⟩,
  ⟨0x00045a27, .vse16V, .vse16V, { rd := 20, rs1 := 8 }⟩,
  ⟨0x0861dd07, .vlse16V, .vlse16V, { rd := 26, rs1 := 3, rs2 := 6 }⟩] = true := by decide +kernel

/-- The examples of R6080 to R6119 at XLEN 64 (spec/46). -/
theorem test_decode_vector_ldst_3 : decodesAll .x64 {} [
  ⟨0x098ed4a7, .vsse16V, .vsse16V, { rd := 9, rs1 := 29, rs2 := 24 }⟩,
  ⟨0x0448d887, .vluxei16V, .vluxei16V, { rd := 17, rs1 := 17, rs2 := 4 }⟩,
  ⟨0x05e6de27, .vsuxei16V, .vsuxei16V, { rd := 28, rs1 := 13, rs2 := 30 }⟩,
  ⟨0x0c07d207, .vloxei16V, .vloxei16V, { rd := 4, rs1 := 15 }⟩,
  ⟨0x0eeddaa7, .vsoxei16V, .vsoxei16V, { rd := 21, rs1 := 27, rs2 := 14, vm := 1 }⟩,
  ⟨0x22055b87, .vlseg2e16V, .vlseg2e16V, { rd := 23, rs1 := 10, vm := 1 }⟩,
  ⟨0x210bd007, .vlseg2e16ffV, .vlseg2e16ffV, { rs1 := 23 }⟩,
  ⟨0x2209d3a7, .vsseg2e16V, .vsseg2e16V, { rd := 7, rs1 := 19, vm := 1 }⟩,
  ⟨0x29295387, .vlsseg2e16V, .vlsseg2e16V, { rd := 7, rs1 := 18, rs2 := 18 }⟩,
  ⟨0x2b3edaa7, .vssseg2e16V, .vssseg2e16V, { rd := 21, rs1 := 29, rs2 := 19, vm := 1 }⟩,
  ⟨0x25e1df87, .vluxseg2ei16V, .vluxseg2ei16V, { rd := 31, rs1 := 3, rs2 := 30 }⟩,
  ⟨0x246fd227, .vsuxseg2ei16V, .vsuxseg2ei16V, { rd := 4, rs1 := 31, rs2 := 6 }⟩,
  ⟨0x2f39db87, .vloxseg2ei16V, .vloxseg2ei16V, { rd := 23, rs1 := 19, rs2 := 19, vm := 1 }⟩,
  ⟨0x2fa3da27, .vsoxseg2ei16V, .vsoxseg2ei16V, { rd := 20, rs1 := 7, rs2 := 26, vm := 1 }⟩,
  ⟨0x420b5f07, .vlseg3e16V, .vlseg3e16V, { rd := 30, rs1 := 22, vm := 1 }⟩,
  ⟨0x41085d87, .vlseg3e16ffV, .vlseg3e16ffV, { rd := 27, rs1 := 16 }⟩,
  ⟨0x42055ea7, .vsseg3e16V, .vsseg3e16V, { rd := 29, rs1 := 10, vm := 1 }⟩,
  ⟨0x4862d387, .vlsseg3e16V, .vlsseg3e16V, { rd := 7, rs1 := 5, rs2 := 6 }⟩,
  ⟨0x4a905327, .vssseg3e16V, .vssseg3e16V, { rd := 6, rs2 := 9, vm := 1 }⟩,
  ⟨0x470d5a87, .vluxseg3ei16V, .vluxseg3ei16V, { rd := 21, rs1 := 26, rs2 := 16, vm := 1 }⟩,
  ⟨0x447d56a7, .vsuxseg3ei16V, .vsuxseg3ei16V, { rd := 13, rs1 := 26, rs2 := 7 }⟩,
  ⟨0x4c1d5c87, .vloxseg3ei16V, .vloxseg3ei16V, { rd := 25, rs1 := 26, rs2 := 1 }⟩,
  ⟨0x4c025827, .vsoxseg3ei16V, .vsoxseg3ei16V, { rd := 16, rs1 := 4 }⟩,
  ⟨0x6208da87, .vlseg4e16V, .vlseg4e16V, { rd := 21, rs1 := 17, vm := 1 }⟩,
  ⟨0x630bd107, .vlseg4e16ffV, .vlseg4e16ffV, { rd := 2, rs1 := 23, vm := 1 }⟩,
  ⟨0x620f50a7, .vsseg4e16V, .vsseg4e16V, { rd := 1, rs1 := 30, vm := 1 }⟩,
  ⟨0x6b875507, .vlsseg4e16V, .vlsseg4e16V, { rd := 10, rs1 := 14, rs2 := 24, vm := 1 }⟩,
  ⟨0x69215127, .vssseg4e16V, .vssseg4e16V, { rd := 2, rs1 := 2, rs2 := 18 }⟩,
  ⟨0x6640d187, .vluxseg4ei16V, .vluxseg4ei16V, { rd := 3, rs1 := 1, rs2 := 4, vm := 1 }⟩,
  ⟨0x67d8d927, .vsuxseg4ei16V, .vsuxseg4ei16V, { rd := 18, rs1 := 17, rs2 := 29, vm := 1 }⟩,
  ⟨0x6dc9dc07, .vloxseg4ei16V, .vloxseg4ei16V, { rd := 24, rs1 := 19, rs2 := 28 }⟩,
  ⟨0x6f35d827, .vsoxseg4ei16V, .vsoxseg4ei16V, { rd := 16, rs1 := 11, rs2 := 19, vm := 1 }⟩,
  ⟨0x80035507, .vlseg5e16V, .vlseg5e16V, { rd := 10, rs1 := 6 }⟩,
  ⟨0x81035b07, .vlseg5e16ffV, .vlseg5e16ffV, { rd := 22, rs1 := 6 }⟩,
  ⟨0x820cd127, .vsseg5e16V, .vsseg5e16V, { rd := 2, rs1 := 25, vm := 1 }⟩,
  ⟨0x8af6dc07, .vlsseg5e16V, .vlsseg5e16V, { rd := 24, rs1 := 13, rs2 := 15, vm := 1 }⟩,
  ⟨0x8974d0a7, .vssseg5e16V, .vssseg5e16V, { rd := 1, rs1 := 9, rs2 := 23 }⟩,
  ⟨0x85a7d407, .vluxseg5ei16V, .vluxseg5ei16V, { rd := 8, rs1 := 15, rs2 := 26 }⟩,
  ⟨0x842354a7, .vsuxseg5ei16V, .vsuxseg5ei16V, { rd := 9, rs1 := 6, rs2 := 2 }⟩,
  ⟨0x8ebf5807, .vloxseg5ei16V, .vloxseg5ei16V, { rd := 16, rs1 := 30, rs2 := 11, vm := 1 }⟩] = true := by decide +kernel

/-- The examples of R6120 to R6159 at XLEN 64 (spec/46). -/
theorem test_decode_vector_ldst_4 : decodesAll .x64 {} [
  ⟨0x8e5d5627, .vsoxseg5ei16V, .vsoxseg5ei16V, { rd := 12, rs1 := 26, rs2 := 5, vm := 1 }⟩,
  ⟨0xa20ed207, .vlseg6e16V, .vlseg6e16V, { rd := 4, rs1 := 29, vm := 1 }⟩,
  ⟨0xa102d807, .vlseg6e16ffV, .vlseg6e16ffV, { rd := 16, rs1 := 5 }⟩,
  ⟨0xa00050a7, .vsseg6e16V, .vsseg6e16V, { rd := 1 }⟩,
  ⟨0xaa1d5287, .vlsseg6e16V, .vlsseg6e16V, { rd := 5, rs1 := 26, rs2 := 1, vm := 1 }⟩,
  ⟨0xa806d127, .vssseg6e16V, .vssseg6e16V, { rd := 2, rs1 := 13 }⟩,
  ⟨0xa667da87, .vluxseg6ei16V, .vluxseg6ei16V, { rd := 21, rs1 := 15, rs2 := 6, vm := 1 }⟩,
  ⟨0xa450d927, .vsuxseg6ei16V, .vsuxseg6ei16V, { rd := 18, rs1 := 1, rs2 := 5 }⟩,
  ⟨0xaef7db07, .vloxseg6ei16V, .vloxseg6ei16V, { rd := 22, rs1 := 15, rs2 := 15, vm := 1 }⟩,
  ⟨0xafa858a7, .vsoxseg6ei16V, .vsoxseg6ei16V, { rd := 17, rs1 := 16, rs2 := 26, vm := 1 }⟩,
  ⟨0xc2015787, .vlseg7e16V, .vlseg7e16V, { rd := 15, rs1 := 2, vm := 1 }⟩,
  ⟨0xc30ed587, .vlseg7e16ffV, .vlseg7e16ffV, { rd := 11, rs1 := 29, vm := 1 }⟩,
  ⟨0xc20dd7a7, .vsseg7e16V, .vsseg7e16V, { rd := 15, rs1 := 27, vm := 1 }⟩,
  ⟨0xc8295387, .vlsseg7e16V, .vlsseg7e16V, { rd := 7, rs1 := 18, rs2 := 2 }⟩,
  ⟨0xcab65827, .vssseg7e16V, .vssseg7e16V, { rd := 16, rs1 := 12, rs2 := 11, vm := 1 }⟩,
  ⟨0xc75d5b07, .vluxseg7ei16V, .vluxseg7ei16V, { rd := 22, rs1 := 26, rs2 := 21, vm := 1 }⟩,
  ⟨0xc5cdd2a7, .vsuxseg7ei16V, .vsuxseg7ei16V, { rd := 5, rs1 := 27, rs2 := 28 }⟩,
  ⟨0xcf665007, .vloxseg7ei16V, .vloxseg7ei16V, { rs1 := 12, rs2 := 22, vm := 1 }⟩,
  ⟨0xcd3a55a7, .vsoxseg7ei16V, .vsoxseg7ei16V, { rd := 11, rs1 := 20, rs2 := 19 }⟩,
  ⟨0xe0085a87, .vlseg8e16V, .vlseg8e16V, { rd := 21, rs1 := 16 }⟩,
  ⟨0xe30d5b07, .vlseg8e16ffV, .vlseg8e16ffV, { rd := 22, rs1 := 26, vm := 1 }⟩,
  ⟨0xe20bd227, .vsseg8e16V, .vsseg8e16V, { rd := 4, rs1 := 23, vm := 1 }⟩,
  ⟨0xea6b5787, .vlsseg8e16V, .vlsseg8e16V, { rd := 15, rs1 := 22, rs2 := 6, vm := 1 }⟩,
  ⟨0xe9ffd0a7, .vssseg8e16V, .vssseg8e16V, { rd := 1, rs1 := 31, rs2 := 31 }⟩,
  ⟨0xe6b85d07, .vluxseg8ei16V, .vluxseg8ei16V, { rd := 26, rs1 := 16, rs2 := 11, vm := 1 }⟩,
  ⟨0xe6895fa7, .vsuxseg8ei16V, .vsuxseg8ei16V, { rd := 31, rs1 := 18, rs2 := 8, vm := 1 }⟩,
  ⟨0xee205c07, .vloxseg8ei16V, .vloxseg8ei16V, { rd := 24, rs2 := 2, vm := 1 }⟩,
  ⟨0xee3a5527, .vsoxseg8ei16V, .vsoxseg8ei16V, { rd := 10, rs1 := 20, rs2 := 3, vm := 1 }⟩,
  ⟨0x02845f87, .vl1re16V, .vl1re16V, { rd := 31, rs1 := 8, vm := 1 }⟩,
  ⟨0x22855807, .vl2re16V, .vl2re16V, { rd := 16, rs1 := 10, vm := 1 }⟩,
  ⟨0x6288df07, .vl4re16V, .vl4re16V, { rd := 30, rs1 := 17, vm := 1 }⟩,
  ⟨0xe2835a87, .vl8re16V, .vl8re16V, { rd := 21, rs1 := 6, vm := 1 }⟩,
  ⟨0x0205ef07, .vle32V, .vle32V, { rd := 30, rs1 := 11, vm := 1 }⟩,
  ⟨0x030eea07, .vle32ffV, .vle32ffV, { rd := 20, rs1 := 29, vm := 1 }⟩,
  ⟨0x0207ee27, .vse32V, .vse32V, { rd := 28, rs1 := 15, vm := 1 }⟩,
  ⟨0x08746e87, .vlse32V, .vlse32V, { rd := 29, rs1 := 8, rs2 := 7 }⟩,
  ⟨0x08e96ea7, .vsse32V, .vsse32V, { rd := 29, rs1 := 18, rs2 := 14 }⟩,
  ⟨0x040fe487, .vluxei32V, .vluxei32V, { rd := 9, rs1 := 31 }⟩,
  ⟨0x0734e227, .vsuxei32V, .vsuxei32V, { rd := 4, rs1 := 9, rs2 := 19, vm := 1 }⟩,
  ⟨0x0c48e387, .vloxei32V, .vloxei32V, { rd := 7, rs1 := 17, rs2 := 4 }⟩] = true := by decide +kernel

/-- The examples of R6160 to R6199 at XLEN 64 (spec/46). -/
theorem test_decode_vector_ldst_5 : decodesAll .x64 {} [
  ⟨0x0c80ea27, .vsoxei32V, .vsoxei32V, { rd := 20, rs1 := 1, rs2 := 8 }⟩,
  ⟨0x20036807, .vlseg2e32V, .vlseg2e32V, { rd := 16, rs1 := 6 }⟩,
  ⟨0x23036d87, .vlseg2e32ffV, .vlseg2e32ffV, { rd := 27, rs1 := 6, vm := 1 }⟩,
  ⟨0x2208e3a7, .vsseg2e32V, .vsseg2e32V, { rd := 7, rs1 := 17, vm := 1 }⟩,
  ⟨0x2a906a07, .vlsseg2e32V, .vlsseg2e32V, { rd := 20, rs2 := 9, vm := 1 }⟩,
  ⟨0x28216aa7, .vssseg2e32V, .vssseg2e32V, { rd := 21, rs1 := 2, rs2 := 2 }⟩,
  ⟨0x26fbe387, .vluxseg2ei32V, .vluxseg2ei32V, { rd := 7, rs1 := 23, rs2 := 15, vm := 1 }⟩,
  ⟨0x24bb6127, .vsuxseg2ei32V, .vsuxseg2ei32V, { rd := 2, rs1 := 22, rs2 := 11 }⟩,
  ⟨0x2f696487, .vloxseg2ei32V, .vloxseg2ei32V, { rd := 9, rs1 := 18, rs2 := 22, vm := 1 }⟩,
  ⟨0x2f2be027, .vsoxseg2ei32V, .vsoxseg2ei32V, { rs1 := 23, rs2 := 18, vm := 1 }⟩,
  ⟨0x400ee587, .vlseg3e32V, .vlseg3e32V, { rd := 11, rs1 := 29 }⟩,
  ⟨0x41016b87, .vlseg3e32ffV, .vlseg3e32ffV, { rd := 23, rs1 := 2 }⟩,
  ⟨0x4205ee27, .vsseg3e32V, .vsseg3e32V, { rd := 28, rs1 := 11, vm := 1 }⟩,
  ⟨0x4bb7e107, .vlsseg3e32V, .vlsseg3e32V, { rd := 2, rs1 := 15, rs2 := 27, vm := 1 }⟩,
  ⟨0x4927e5a7, .vssseg3e32V, .vssseg3e32V, { rd := 11, rs1 := 15, rs2 := 18 }⟩,
  ⟨0x458dec07, .vluxseg3ei32V, .vluxseg3ei32V, { rd := 24, rs1 := 27, rs2 := 24 }⟩,
  ⟨0x455ced27, .vsuxseg3ei32V, .vsuxseg3ei32V, { rd := 26, rs1 := 25, rs2 := 21 }⟩,
  ⟨0x4ea66987, .vloxseg3ei32V, .vloxseg3ei32V, { rd := 19, rs1 := 12, rs2 := 10, vm := 1 }⟩,
  ⟨0x4c276a27, .vsoxseg3ei32V, .vsoxseg3ei32V, { rd := 20, rs1 := 14, rs2 := 2 }⟩,
  ⟨0x62066787, .vlseg4e32V, .vlseg4e32V, { rd := 15, rs1 := 12, vm := 1 }⟩,
  ⟨0x63076287, .vlseg4e32ffV, .vlseg4e32ffV, { rd := 5, rs1 := 14, vm := 1 }⟩,
  ⟨0x600964a7, .vsseg4e32V, .vsseg4e32V, { rd := 9, rs1 := 18 }⟩,
  ⟨0x68326487, .vlsseg4e32V, .vlsseg4e32V, { rd := 9, rs1 := 4, rs2 := 3 }⟩,
  ⟨0x6911e527, .vssseg4e32V, .vssseg4e32V, { rd := 10, rs1 := 3, rs2 := 17 }⟩,
  ⟨0x64f8e587, .vluxseg4ei32V, .vluxseg4ei32V, { rd := 11, rs1 := 17, rs2 := 15 }⟩,
  ⟨0x676f6c27, .vsuxseg4ei32V, .vsuxseg4ei32V, { rd := 24, rs1 := 30, rs2 := 22, vm := 1 }⟩,
  ⟨0x6fb4ef87, .vloxseg4ei32V, .vloxseg4ei32V, { rd := 31, rs1 := 9, rs2 := 27, vm := 1 }⟩,
  ⟨0x6d086c27, .vsoxseg4ei32V, .vsoxseg4ei32V, { rd := 24, rs1 := 16, rs2 := 16 }⟩,
  ⟨0x8205e387, .vlseg5e32V, .vlseg5e32V, { rd := 7, rs1 := 11, vm := 1 }⟩,
  ⟨0x830de207, .vlseg5e32ffV, .vlseg5e32ffV, { rd := 4, rs1 := 27, vm := 1 }⟩,
  ⟨0x80056227, .vsseg5e32V, .vsseg5e32V, { rd := 4, rs1 := 10 }⟩,
  ⟨0x8920e707, .vlsseg5e32V, .vlsseg5e32V, { rd := 14, rs1 := 1, rs2 := 18 }⟩,
  ⟨0x8bbb62a7, .vssseg5e32V, .vssseg5e32V, { rd := 5, rs1 := 22, rs2 := 27, vm := 1 }⟩,
  ⟨0x87f96787, .vluxseg5ei32V, .vluxseg5ei32V, { rd := 15, rs1 := 18, rs2 := 31, vm := 1 }⟩,
  ⟨0x862a60a7, .vsuxseg5ei32V, .vsuxseg5ei32V, { rd := 1, rs1 := 20, rs2 := 2, vm := 1 }⟩,
  ⟨0x8d0be607, .vloxseg5ei32V, .vloxseg5ei32V, { rd := 12, rs1 := 23, rs2 := 16 }⟩,
  ⟨0x8cb2e927, .vsoxseg5ei32V, .vsoxseg5ei32V, { rd := 18, rs1 := 5, rs2 := 11 }⟩,
  ⟨0xa2026087, .vlseg6e32V, .vlseg6e32V, { rd := 1, rs1 := 4, vm := 1 }⟩,
  ⟨0xa10d6d87, .vlseg6e32ffV, .vlseg6e32ffV, { rd := 27, rs1 := 26 }⟩,
  ⟨0xa008e027, .vsseg6e32V, .vsseg6e32V, { rs1 := 17 }⟩] = true := by decide +kernel

/-- The examples of R6200 to R6239 at XLEN 64 (spec/46). -/
theorem test_decode_vector_ldst_6 : decodesAll .x64 {} [
  ⟨0xa939ee87, .vlsseg6e32V, .vlsseg6e32V, { rd := 29, rs1 := 19, rs2 := 19 }⟩,
  ⟨0xa8e26c27, .vssseg6e32V, .vssseg6e32V, { rd := 24, rs1 := 4, rs2 := 14 }⟩,
  ⟨0xa4746a07, .vluxseg6ei32V, .vluxseg6ei32V, { rd := 20, rs1 := 8, rs2 := 7 }⟩,
  ⟨0xa7396127, .vsuxseg6ei32V, .vsuxseg6ei32V, { rd := 2, rs1 := 18, rs2 := 19, vm := 1 }⟩,
  ⟨0xafe46907, .vloxseg6ei32V, .vloxseg6ei32V, { rd := 18, rs1 := 8, rs2 := 30, vm := 1 }⟩,
  ⟨0xad6e66a7, .vsoxseg6ei32V, .vsoxseg6ei32V, { rd := 13, rs1 := 28, rs2 := 22 }⟩,
  ⟨0xc20c6487, .vlseg7e32V, .vlseg7e32V, { rd := 9, rs1 := 24, vm := 1 }⟩,
  ⟨0xc104ee87, .vlseg7e32ffV, .vlseg7e32ffV, { rd := 29, rs1 := 9 }⟩,
  ⟨0xc00d6f27, .vsseg7e32V, .vsseg7e32V, { rd := 30, rs1 := 26 }⟩,
  ⟨0xc90b6f07, .vlsseg7e32V, .vlsseg7e32V, { rd := 30, rs1 := 22, rs2 := 16 }⟩,
  ⟨0xc8a9e127, .vssseg7e32V, .vssseg7e32V, { rd := 2, rs1 := 19, rs2 := 10 }⟩,
  ⟨0xc4696e07, .vluxseg7ei32V, .vluxseg7ei32V, { rd := 28, rs1 := 18, rs2 := 6 }⟩,
  ⟨0xc5586ca7, .vsuxseg7ei32V, .vsuxseg7ei32V, { rd := 25, rs1 := 16, rs2 := 21 }⟩,
  ⟨0xce926307, .vloxseg7ei32V, .vloxseg7ei32V, { rd := 6, rs1 := 4, rs2 := 9, vm := 1 }⟩,
  ⟨0xceef60a7, .vsoxseg7ei32V, .vsoxseg7ei32V, { rd := 1, rs1 := 30, rs2 := 14, vm := 1 }⟩,
  ⟨0xe2066d07, .vlseg8e32V, .vlseg8e32V, { rd := 26, rs1 := 12, vm := 1 }⟩,
  ⟨0xe10ae507, .vlseg8e32ffV, .vlseg8e32ffV, { rd := 10, rs1 := 21 }⟩,
  ⟨0xe00a6ea7, .vsseg8e32V, .vsseg8e32V, { rd := 29, rs1 := 20 }⟩,
  ⟨0xea456c07, .vlsseg8e32V, .vlsseg8e32V, { rd := 24, rs1 := 10, rs2 := 4, vm := 1 }⟩,
  ⟨0xe80feb27, .vssseg8e32V, .vssseg8e32V, { rd := 22, rs1 := 31 }⟩,
  ⟨0xe53ae607, .vluxseg8ei32V, .vluxseg8ei32V, { rd := 12, rs1 := 21, rs2 := 19 }⟩,
  ⟨0xe431e8a7, .vsuxseg8ei32V, .vsuxseg8ei32V, { rd := 17, rs1 := 3, rs2 := 3 }⟩,
  ⟨0xee016107, .vloxseg8ei32V, .vloxseg8ei32V, { rd := 2, rs1 := 2, vm := 1 }⟩,
  ⟨0xec0ee327, .vsoxseg8ei32V, .vsoxseg8ei32V, { rd := 6, rs1 := 29 }⟩,
  ⟨0x0281e707, .vl1re32V, .vl1re32V, { rd := 14, rs1 := 3, vm := 1 }⟩,
  ⟨0x22846a87, .vl2re32V, .vl2re32V, { rd := 21, rs1 := 8, vm := 1 }⟩,
  ⟨0x62886607, .vl4re32V, .vl4re32V, { rd := 12, rs1 := 16, vm := 1 }⟩,
  ⟨0xe28ae607, .vl8re32V, .vl8re32V, { rd := 12, rs1 := 21, vm := 1 }⟩,
  ⟨0x02007707, .vle64V, .vle64V, { rd := 14, vm := 1 }⟩,
  ⟨0x03087e87, .vle64ffV, .vle64ffV, { rd := 29, rs1 := 16, vm := 1 }⟩,
  ⟨0x00087b27, .vse64V, .vse64V, { rd := 22, rs1 := 16 }⟩,
  ⟨0x0ba97407, .vlse64V, .vlse64V, { rd := 8, rs1 := 18, rs2 := 26, vm := 1 }⟩,
  ⟨0x0a297b27, .vsse64V, .vsse64V, { rd := 22, rs1 := 18, rs2 := 2, vm := 1 }⟩,
  ⟨0x06d3fc87, .vluxei64V, .vluxei64V, { rd := 25, rs1 := 7, rs2 := 13, vm := 1 }⟩,
  ⟨0x067ffe27, .vsuxei64V, .vsuxei64V, { rd := 28, rs1 := 31, rs2 := 7, vm := 1 }⟩,
  ⟨0x0c67f187, .vloxei64V, .vloxei64V, { rd := 3, rs1 := 15, rs2 := 6 }⟩,
  ⟨0x0fd27927, .vsoxei64V, .vsoxei64V, { rd := 18, rs1 := 4, rs2 := 29, vm := 1 }⟩,
  ⟨0x2001f487, .vlseg2e64V, .vlseg2e64V, { rd := 9, rs1 := 3 }⟩,
  ⟨0x2107f687, .vlseg2e64ffV, .vlseg2e64ffV, { rd := 13, rs1 := 15 }⟩,
  ⟨0x200ef1a7, .vsseg2e64V, .vsseg2e64V, { rd := 3, rs1 := 29 }⟩] = true := by decide +kernel

/-- The examples of R6240 to R6279 at XLEN 64 (spec/46). -/
theorem test_decode_vector_ldst_7 : decodesAll .x64 {} [
  ⟨0x2953f807, .vlsseg2e64V, .vlsseg2e64V, { rd := 16, rs1 := 7, rs2 := 21 }⟩,
  ⟨0x29e8f5a7, .vssseg2e64V, .vssseg2e64V, { rd := 11, rs1 := 17, rs2 := 30 }⟩,
  ⟨0x24767187, .vluxseg2ei64V, .vluxseg2ei64V, { rd := 3, rs1 := 12, rs2 := 7 }⟩,
  ⟨0x273cfba7, .vsuxseg2ei64V, .vsuxseg2ei64V, { rd := 23, rs1 := 25, rs2 := 19, vm := 1 }⟩,
  ⟨0x2e72f507, .vloxseg2ei64V, .vloxseg2ei64V, { rd := 10, rs1 := 5, rs2 := 7, vm := 1 }⟩,
  ⟨0x2ee17ca7, .vsoxseg2ei64V, .vsoxseg2ei64V, { rd := 25, rs1 := 2, rs2 := 14, vm := 1 }⟩,
  ⟨0x4008fc07, .vlseg3e64V, .vlseg3e64V, { rd := 24, rs1 := 17 }⟩,
  ⟨0x410d7987, .vlseg3e64ffV, .vlseg3e64ffV, { rd := 19, rs1 := 26 }⟩,
  ⟨0x420473a7, .vsseg3e64V, .vsseg3e64V, { rd := 7, rs1 := 8, vm := 1 }⟩,
  ⟨0x4aabfb87, .vlsseg3e64V, .vlsseg3e64V, { rd := 23, rs1 := 23, rs2 := 10, vm := 1 }⟩,
  ⟨0x4b03f3a7, .vssseg3e64V, .vssseg3e64V, { rd := 7, rs1 := 7, rs2 := 16, vm := 1 }⟩,
  ⟨0x445efd07, .vluxseg3ei64V, .vluxseg3ei64V, { rd := 26, rs1 := 29, rs2 := 5 }⟩,
  ⟨0x46e672a7, .vsuxseg3ei64V, .vsuxseg3ei64V, { rd := 5, rs1 := 12, rs2 := 14, vm := 1 }⟩,
  ⟨0x4d68f487, .vloxseg3ei64V, .vloxseg3ei64V, { rd := 9, rs1 := 17, rs2 := 22 }⟩,
  ⟨0x4d537527, .vsoxseg3ei64V, .vsoxseg3ei64V, { rd := 10, rs1 := 6, rs2 := 21 }⟩,
  ⟨0x6205f187, .vlseg4e64V, .vlseg4e64V, { rd := 3, rs1 := 11, vm := 1 }⟩,
  ⟨0x6307f407, .vlseg4e64ffV, .vlseg4e64ffV, { rd := 8, rs1 := 15, vm := 1 }⟩,
  ⟨0x6003f427, .vsseg4e64V, .vsseg4e64V, { rd := 8, rs1 := 7 }⟩,
  ⟨0x68b17f87, .vlsseg4e64V, .vlsseg4e64V, { rd := 31, rs1 := 2, rs2 := 11 }⟩,
  ⟨0x6ab5f7a7, .vssseg4e64V, .vssseg4e64V, { rd := 15, rs1 := 11, rs2 := 11, vm := 1 }⟩,
  ⟨0x65a2fc87, .vluxseg4ei64V, .vluxseg4ei64V, { rd := 25, rs1 := 5, rs2 := 26 }⟩,
  ⟨0x6522fda7, .vsuxseg4ei64V, .vsuxseg4ei64V, { rd := 27, rs1 := 5, rs2 := 18 }⟩,
  ⟨0x6f877f07, .vloxseg4ei64V, .vloxseg4ei64V, { rd := 30, rs1 := 14, rs2 := 24, vm := 1 }⟩,
  ⟨0x6eabfe27, .vsoxseg4ei64V, .vsoxseg4ei64V, { rd := 28, rs1 := 23, rs2 := 10, vm := 1 }⟩,
  ⟨0x800f7087, .vlseg5e64V, .vlseg5e64V, { rd := 1, rs1 := 30 }⟩,
  ⟨0x81097907, .vlseg5e64ffV, .vlseg5e64ffV, { rd := 18, rs1 := 18 }⟩,
  ⟨0x80067fa7, .vsseg5e64V, .vsseg5e64V, { rd := 31, rs1 := 12 }⟩,
  ⟨0x885b7407, .vlsseg5e64V, .vlsseg5e64V, { rd := 8, rs1 := 22, rs2 := 5 }⟩,
  ⟨0x885e7127, .vssseg5e64V, .vssseg5e64V, { rd := 2, rs1 := 28, rs2 := 5 }⟩,
  ⟨0x86107987, .vluxseg5ei64V, .vluxseg5ei64V, { rd := 19, rs2 := 1, vm := 1 }⟩,
  ⟨0x848bf127, .vsuxseg5ei64V, .vsuxseg5ei64V, { rd := 2, rs1 := 23, rs2 := 8 }⟩,
  ⟨0x8cf3fd87, .vloxseg5ei64V, .vloxseg5ei64V, { rd := 27, rs1 := 7, rs2 := 15 }⟩,
  ⟨0x8db873a7, .vsoxseg5ei64V, .vsoxseg5ei64V, { rd := 7, rs1 := 16, rs2 := 27 }⟩,
  ⟨0xa2037487, .vlseg6e64V, .vlseg6e64V, { rd := 9, rs1 := 6, vm := 1 }⟩,
  ⟨0xa10dfb07, .vlseg6e64ffV, .vlseg6e64ffV, { rd := 22, rs1 := 27 }⟩,
  ⟨0xa00f7927, .vsseg6e64V, .vsseg6e64V, { rd := 18, rs1 := 30 }⟩,
  ⟨0xa97dfd87, .vlsseg6e64V, .vlsseg6e64V, { rd := 27, rs1 := 27, rs2 := 23 }⟩,
  ⟨0xabfffea7, .vssseg6e64V, .vssseg6e64V, { rd := 29, rs1 := 31, rs2 := 31, vm := 1 }⟩,
  ⟨0xa4eaf307, .vluxseg6ei64V, .vluxseg6ei64V, { rd := 6, rs1 := 21, rs2 := 14 }⟩,
  ⟨0xa514f9a7, .vsuxseg6ei64V, .vsuxseg6ei64V, { rd := 19, rs1 := 9, rs2 := 17 }⟩] = true := by decide +kernel

/-- The examples of R6280 to R6309 at XLEN 64 (spec/46). -/
theorem test_decode_vector_ldst_8 : decodesAll .x64 {} [
  ⟨0xae2efc87, .vloxseg6ei64V, .vloxseg6ei64V, { rd := 25, rs1 := 29, rs2 := 2, vm := 1 }⟩,
  ⟨0xad4a72a7, .vsoxseg6ei64V, .vsoxseg6ei64V, { rd := 5, rs1 := 20, rs2 := 20 }⟩,
  ⟨0xc2037b07, .vlseg7e64V, .vlseg7e64V, { rd := 22, rs1 := 6, vm := 1 }⟩,
  ⟨0xc307f687, .vlseg7e64ffV, .vlseg7e64ffV, { rd := 13, rs1 := 15, vm := 1 }⟩,
  ⟨0xc2017a27, .vsseg7e64V, .vsseg7e64V, { rd := 20, rs1 := 2, vm := 1 }⟩,
  ⟨0xc8a97207, .vlsseg7e64V, .vlsseg7e64V, { rd := 4, rs1 := 18, rs2 := 10 }⟩,
  ⟨0xc81efca7, .vssseg7e64V, .vssseg7e64V, { rd := 25, rs1 := 29, rs2 := 1 }⟩,
  ⟨0xc5f8f087, .vluxseg7ei64V, .vluxseg7ei64V, { rd := 1, rs1 := 17, rs2 := 31 }⟩,
  ⟨0xc6a1fca7, .vsuxseg7ei64V, .vsuxseg7ei64V, { rd := 25, rs1 := 3, rs2 := 10, vm := 1 }⟩,
  ⟨0xcdd37387, .vloxseg7ei64V, .vloxseg7ei64V, { rd := 7, rs1 := 6, rs2 := 29 }⟩,
  ⟨0xcfe37ea7, .vsoxseg7ei64V, .vsoxseg7ei64V, { rd := 29, rs1 := 6, rs2 := 30, vm := 1 }⟩,
  ⟨0xe2097407, .vlseg8e64V, .vlseg8e64V, { rd := 8, rs1 := 18, vm := 1 }⟩,
  ⟨0xe30ff307, .vlseg8e64ffV, .vlseg8e64ffV, { rd := 6, rs1 := 31, vm := 1 }⟩,
  ⟨0xe00178a7, .vsseg8e64V, .vsseg8e64V, { rd := 17, rs1 := 2 }⟩,
  ⟨0xebfcf707, .vlsseg8e64V, .vlsseg8e64V, { rd := 14, rs1 := 25, rs2 := 31, vm := 1 }⟩,
  ⟨0xeb427aa7, .vssseg8e64V, .vssseg8e64V, { rd := 21, rs1 := 4, rs2 := 20, vm := 1 }⟩,
  ⟨0xe42b7307, .vluxseg8ei64V, .vluxseg8ei64V, { rd := 6, rs1 := 22, rs2 := 2 }⟩,
  ⟨0xe675f8a7, .vsuxseg8ei64V, .vsuxseg8ei64V, { rd := 17, rs1 := 11, rs2 := 7, vm := 1 }⟩,
  ⟨0xec397207, .vloxseg8ei64V, .vloxseg8ei64V, { rd := 4, rs1 := 18, rs2 := 3 }⟩,
  ⟨0xef1ffd27, .vsoxseg8ei64V, .vsoxseg8ei64V, { rd := 26, rs1 := 31, rs2 := 17, vm := 1 }⟩,
  ⟨0x028af707, .vl1re64V, .vl1re64V, { rd := 14, rs1 := 21, vm := 1 }⟩,
  ⟨0x22897987, .vl2re64V, .vl2re64V, { rd := 19, rs1 := 18, vm := 1 }⟩,
  ⟨0x6281f087, .vl4re64V, .vl4re64V, { rd := 1, rs1 := 3, vm := 1 }⟩,
  ⟨0xe28d7c07, .vl8re64V, .vl8re64V, { rd := 24, rs1 := 26, vm := 1 }⟩,
  ⟨0x02870527, .vs1rV, .vs1rV, { rd := 10, rs1 := 14, vm := 1 }⟩,
  ⟨0x228d05a7, .vs2rV, .vs2rV, { rd := 11, rs1 := 26, vm := 1 }⟩,
  ⟨0x62888fa7, .vs4rV, .vs4rV, { rd := 31, rs1 := 17, vm := 1 }⟩,
  ⟨0xe2890b27, .vs8rV, .vs8rV, { rd := 22, rs1 := 18, vm := 1 }⟩,
  ⟨0x02b30d07, .vlmV, .vlmV, { rd := 26, rs1 := 6, vm := 1 }⟩,
  ⟨0x02b60827, .vsmV, .vsmV, { rd := 16, rs1 := 12, vm := 1 }⟩] = true := by decide +kernel

/-- The examples of R7000 at XLEN 64 with xtheadba (spec/47). -/
theorem test_decode_vendor_1 : decodesAll .x64 { xtheadba := true } [
  ⟨0x074f120b, .thAddsl, .thAddsl, { rd := 4, rs1 := 30, rs2 := 20, imm := 3 }⟩] = true := by decide +kernel

/-- The examples of R7001 to R7009 at XLEN 64 with xtheadbb (spec/47). -/
theorem test_decode_vendor_2 : decodesAll .x64 { xtheadbb := true } [
  ⟨0x109d900b, .thSrri, .thSrri, { rs1 := 27, imm := 9 }⟩,
  ⟨0x15ac9a0b, .thSrriw, .thSrriw, { rd := 20, rs1 := 25, imm := 26 }⟩,
  ⟨0x6b63a48b, .thExt, .thExt, { rd := 9, rs1 := 7, imm := 26, imm1 := 54 }⟩,
  ⟨0x643abe8b, .thExtu, .thExtu, { rd := 29, rs1 := 21, imm := 25, imm1 := 3 }⟩,
  ⟨0x840a118b, .thFf0, .thFf0, { rd := 3, rs1 := 20 }⟩,
  ⟨0x860b978b, .thFf1, .thFf1, { rd := 15, rs1 := 23 }⟩,
  ⟨0x8205970b, .thRev, .thRev, { rd := 14, rs1 := 11 }⟩,
  ⟨0x90069a8b, .thRevw, .thRevw, { rd := 21, rs1 := 13 }⟩,
  ⟨0x8007990b, .thTstnbz, .thTstnbz, { rd := 18, rs1 := 15 }⟩] = true := by decide +kernel

/-- The examples of R7010 at XLEN 64 with xtheadbs (spec/47). -/
theorem test_decode_vendor_3 : decodesAll .x64 { xtheadbs := true } [
  ⟨0x8af21a0b, .thTst, .thTst, { rd := 20, rs1 := 4, imm := 47 }⟩] = true := by decide +kernel

/-- The examples of R7011 to R7012 at XLEN 64 with xtheadcondmov (spec/47). -/
theorem test_decode_vendor_4 : decodesAll .x64 { xtheadcondmov := true } [
  ⟨0x41d99b8b, .thMveqz, .thMveqz, { rd := 23, rs1 := 19, rs2 := 29 }⟩,
  ⟨0x432c9f0b, .thMvnez, .thMvnez, { rd := 30, rs1 := 25, rs2 := 18 }⟩] = true := by decide +kernel

/-- The examples of R7013 to R7014 at XLEN 64 with xventanacondops (spec/47). -/
theorem test_decode_vendor_5 : decodesAll .x64 { xventanacondops := true } [
  ⟨0x0008e7fb, .vtMaskc, .vtMaskc, { rd := 15, rs1 := 17 }⟩,
  ⟨0x00e57efb, .vtMaskcn, .vtMaskcn, { rd := 29, rs1 := 10, rs2 := 14 }⟩] = true := by decide +kernel

/-- The examples of R8000 to R8039 at XLEN 64 (spec/48). -/
theorem test_decode_pseudo_1 : decodesAll .x64 {} [
  ⟨0x00000013, .nop, .nop, {}⟩,
  ⟨0x00000f93, .mv, .mv, { rd := 31 }⟩,
  ⟨0xc8200913, .li, .li, { rd := 18, imm := -894 }⟩,
  ⟨0x000f821b, .sextW, .sextW, { rd := 4, rs1 := 31 }⟩,
  ⟨0xfff04513, .not, .not, { rd := 10, imm := -1 }⟩,
  ⟨0x001f3013, .seqz, .seqz, { rs1 := 30, imm := 1 }⟩,
  ⟨0x00003033, .snez, .snez, {}⟩,
  ⟨0x0000a0b3, .sltz, .sltz, { rd := 1, rs1 := 1 }⟩,
  ⟨0x01f02633, .sgtz, .sgtz, { rd := 12, rs2 := 31 }⟩,
  ⟨0x40d006b3, .neg, .neg, { rd := 13, rs2 := 13 }⟩,
  ⟨0x401000bb, .negw, .negw, { rd := 1, rs2 := 1 }⟩,
  ⟨0x0c0008e3, .beqz, .beqz, { imm := 2256 }⟩,
  ⟨0x000090e3, .bnez, .bnez, { rs1 := 1, imm := 2048 }⟩,
  ⟨0xe800cbe3, .bltz, .bltz, { rs1 := 1, imm := -362 }⟩,
  ⟨0x90a04063, .bgtz, .bgtz, { rs2 := 10, imm := -3840 }⟩,
  ⟨0xfe005063, .blez, .blez, { imm := -2080 }⟩,
  ⟨0x0200dfe3, .bgez, .bgez, { rs1 := 1, imm := 2110 }⟩,
  ⟨0x7a2cc06f, .j, .j, { imm := 837538 }⟩,
  ⟨0xfffff0ef, .jalP, .jalP, { rd := 1, imm := -2 }⟩,
  ⟨0x00008067, .ret, .ret, { rs1 := 1 }⟩,
  ⟨0x00000067, .jr, .jr, {}⟩,
  ⟨0x000080e7, .jalrP, .jalrP, { rd := 1, rs1 := 1 }⟩,
  ⟨0x00239ff3, .fsrm, .fsrm, { rd := 31, rs1 := 7, csr := 2 }⟩,
  ⟨0x001a9073, .fsflags, .fsflags, { rs1 := 21, csr := 1 }⟩,
  ⟨0x003f9073, .fscsr, .fscsr, { rs1 := 31, csr := 3 }⟩,
  ⟨0x36c01073, .csrw, .csrw, { csr := 876 }⟩,
  ⟨0xc0002ff3, .rdcycle, .rdcycle, { rd := 31, csr := 3072 }⟩,
  ⟨0xc0102073, .rdtime, .rdtime, { csr := 3073 }⟩,
  ⟨0xc0202073, .rdinstret, .rdinstret, { csr := 3074 }⟩,
  ⟨0xc8002073, .rdcycleh, .rdcycleh, { csr := 3200 }⟩,
  ⟨0xc81020f3, .rdtimeh, .rdtimeh, { rd := 1, csr := 3201 }⟩,
  ⟨0xc8202073, .rdinstreth, .rdinstreth, { csr := 3202 }⟩,
  ⟨0x003020f3, .frcsr, .frcsr, { rd := 1, csr := 3 }⟩,
  ⟨0x00202073, .frrm, .frrm, { csr := 2 }⟩,
  ⟨0x001020f3, .frflags, .frflags, { rd := 1, csr := 1 }⟩,
  ⟨0x75102073, .csrr, .csrr, { csr := 1873 }⟩,
  ⟨0x001fa073, .csrs, .csrs, { rs1 := 31, csr := 1 }⟩,
  ⟨0x00103073, .csrc, .csrc, { csr := 1 }⟩,
  ⟨0x0020d0f3, .fsrmi, .fsrmi, { rd := 1, imm := 1, csr := 2 }⟩,
  ⟨0x0010d073, .fsflagsi, .fsflagsi, { imm := 1, csr := 1 }⟩] = true := by decide +kernel

/-- The examples of R8040 to R8066 at XLEN 64 (spec/48). -/
theorem test_decode_pseudo_2 : decodesAll .x64 {} [
  ⟨0xb516d073, .csrwi, .csrwi, { imm := 13, csr := 2897 }⟩,
  ⟨0xfa8fe073, .csrsi, .csrsi, { imm := 31, csr := 4008 }⟩,
  ⟨0x2deaf073, .csrci, .csrci, { imm := 21, csr := 734 }⟩,
  ⟨0x201080d3, .fmvS, .fmvS, { rd := 1, rs1 := 1, rs2 := 1 }⟩,
  ⟨0x21ff9bd3, .fnegS, .fnegS, { rd := 23, rs1 := 31, rs2 := 31 }⟩,
  ⟨0x214a2053, .fabsS, .fabsS, { rs1 := 20, rs2 := 20 }⟩,
  ⟨0x22108fd3, .fmvD, .fmvD, { rd := 31, rs1 := 1, rs2 := 1 }⟩,
  ⟨0x22001fd3, .fnegD, .fnegD, { rd := 31 }⟩,
  ⟨0x22002053, .fabsD, .fabsD, {}⟩,
  ⟨0x24318053, .fmvH, .fmvH, { rs1 := 3, rs2 := 3 }⟩,
  ⟨0x240012d3, .fnegH, .fnegH, { rd := 5 }⟩,
  ⟨0x25dea0d3, .fabsH, .fabsH, { rd := 1, rs1 := 29, rs2 := 29 }⟩,
  ⟨0x26000e53, .fmvQ, .fmvQ, { rd := 28 }⟩,
  ⟨0x27de9fd3, .fnegQ, .fnegQ, { rd := 31, rs1 := 29, rs2 := 29 }⟩,
  ⟨0x260021d3, .fabsQ, .fabsQ, { rd := 3 }⟩,
  ⟨0x0800003b, .zextW, .zextW, {}⟩,
  ⟨0x2ccfb8d7, .vnotV, .vnotV, { rd := 17, rs2 := 12, imm := -1 }⟩,
  ⟨0x0e004057, .vnegV, .vnegV, { vm := 1 }⟩,
  ⟨0xc6006057, .vwcvtXXV, .vwcvtXXV, { vm := 1 }⟩,
  ⟨0xc0006fd7, .vwcvtuXXV, .vwcvtuXXV, { rd := 31 }⟩,
  ⟨0xb00046d7, .vncvtXXW, .vncvtXXW, { rd := 13 }⟩,
  ⟨0x66002057, .vmmvM, .vmmvM, { vm := 1 }⟩,
  ⟨0x77ffa2d7, .vmnotM, .vmnotM, { rd := 5, rs1 := 31, rs2 := 31, vm := 1 }⟩,
  ⟨0x6e10a0d7, .vmclrM, .vmclrM, { rd := 1, rs1 := 1, rs2 := 1, vm := 1 }⟩,
  ⟨0x7e002057, .vmsetM, .vmsetM, { vm := 1 }⟩,
  ⟨0x274a1a57, .vfnegV, .vfnegV, { rd := 20, rs1 := 20, rs2 := 20, vm := 1 }⟩,
  ⟨0x2bff92d7, .vfabsV, .vfabsV, { rd := 5, rs1 := 31, rs2 := 31, vm := 1 }⟩] = true := by decide +kernel

/-! The scenarios of 95_test_vectors.md, part 1. -/

/-- S1: the canonical nop, at each XLEN. -/
theorem test_scenario_nop : ([Xlen.x32, .x64, .x128].all fun x =>
    presents32Gives x {} 0x00000013 fun _ => { len := 4, op := .std .nop, codec := .i }) = true := by decide +kernel

/-- S3: `c.addi4spn` with a zero immediate is illegal, with immediate 4 it is `addi`. -/
theorem test_scenario_zero_immediate : (presents16Gives .x64 {} 0x0000 (fun _ => { len := 2 }) &&
    presents16Gives .x64 {} 0x001c (fun _ => { len := 2 }) &&
    presents16Gives .x64 {} 0x0040 (fun _ => { len := 2, op := .std .addi, codec := .i, rd := 8, rs1 := 2, imm := 4 }))
    = true := by decide +kernel

/-- S4: the length prefixes, and a vendor flag that does not enable another tree (S2). -/
theorem test_scenario_lengths : (presents16Gives .x64 {} 0x007f (fun _ => {}) &&
    presents16Gives .x64 {} 0xffff (fun _ => {}) && presents16Gives .x64 {} 0x003f (fun _ => { len := 8 }) &&
    presents16Gives .x64 {} 0x001f (fun _ => { len := 6 }) &&
    presents32Gives .x64 { xtheadbb := true, xventanacondops := true } 0x00c5950b (fun _ => { len := 4 }))
    = true := by decide +kernel

/-- The expander and the lifter in turn: `c.li a0, 0` ends as `mv` (R215). -/
theorem test_expand_then_lift :
    presents16Gives .x64 {} 0x4501 (fun _ => { len := 2, op := .std .mv, codec := .i, rd := 10 }) = true := by
  decide +kernel

/-- The state with a table word placed runs it as its first step. -/
theorem test_withFetchWord :
    gives (State.reset.withFetchWord 32 0x0205c503) { len := 4, op := .std .lbu, codec := .i, rd := 10, rs1 := 11, imm := 32 }
      = true := by decide +kernel

/-- `decodeTableWord` on a word of each width, and on a word of no row. -/
theorem test_decodeTableWord : decodeTableWord 32 0x264b89b7 = some .lui ∧ decodeTableWord 16 0x3e54 = some .cFld ∧
    decodeTableWord 32 0x0000002b = none := by decide +kernel

/-- A byte list decodes to its first instruction and the bytes behind it; one that ends too early is rejected. -/
theorem test_decodeBytes : decodeBytes [0x13, 0, 0, 0, 0x82, 0x80] .x64 {} [] = (.instr .nop, [0x82, 0x80]) ∧
    decodeBytes [0x82, 0x80] .x64 {} [] = (.instr .cJr, []) ∧
    decodeBytes [0x13, 0] .x64 {} [] = (.rejected .truncated, [0x13, 0]) ∧
    decodeBytes [] .x64 {} [] = (.rejected .truncated, []) := by decide +kernel

/-- The encoder on the spec's words for `lui`, `addi`, `beq` and `c.fld` (R1000, R1023, R1004, R4001). -/
theorem test_encode : encode .x64 .lui { rd := 19, imm := 642482176 } = [0x89b7, 0x264b] ∧
    encode .x64 .addi { rd := 14, rs1 := 19, imm := -2018 } = [0x8713, 0x81e9] ∧
    encode .x64 .beq { rs1 := 22, rs2 := 7, imm := 1232 } = [0x0863, 0x4c7b] ∧
    encode .x64 .cFld { rd := 13, rs1 := 12, imm := 184 } = [0x3e54] := by decide +kernel

/-- The stack adjustments that R141 works out. -/
theorem test_stackAdj : stackAdj 4 0 .x32 = 16 ∧ stackAdj 7 0 .x32 = 16 ∧ stackAdj 8 0 .x32 = 32 := by decide

/-- Register files of a floating-point load, a vector store and a base opcode (R113), and display names. -/
theorem test_descriptor : (Instr.descriptor .flw).regs = { rd := .f } ∧ (Instr.descriptor .vse32V).regs.rd = .v ∧
    (Instr.descriptor .add).regs = {} ∧ (Instr.descriptor .jalrP).name = "jalr" ∧ Instr.id .thAddsl = 1 ∧
    Instr.id .lui = 1 := by decide +kernel

/-! The smoke test of WellFormed: a well-formed term beside each ill-formed one. -/

/-- One term and one that a single check refuses, at an XLEN and a configuration. -/
def refusesOnly (x : Xlen) (cfg : Cfg) (i : Instr) (good bad : Operands) : Bool :=
  WellFormed x cfg i good && !WellFormed x cfg i bad

/-- The presence check refuses an opcode of another XLEN, or whose flag or guard is 0. -/
theorem test_wellFormed_presence : (WellFormed .x64 {} .ld {} && !WellFormed .x32 {} .ld {} &&
    WellFormed .x64 { zcmp := true } .cmMva01s { rs1 := 8, rs2 := 9 } && !WellFormed .x64 {} .cmMva01s { rs1 := 8, rs2 := 9 } &&
    WellFormed .x64 { xtheadba := true } .thAddsl {} && !WellFormed .x64 {} .thAddsl {}) = true := by decide +kernel

/-- The check of unwritten fields refuses a field that the codec does not write. -/
theorem test_wellFormed_unwritten : refusesOnly .x64 {} .lui { rd := 1 } { rd := 1, rs1 := 1 } = true := by decide +kernel

/-- The codec's check refuses immediates and registers that its extractors cannot give. -/
theorem test_wellFormed_codec : (refusesOnly .x64 {} .slti { imm := 2047 } { imm := 2048 } &&
    refusesOnly .x64 {} .bltu { imm := -4096 } { imm := 3 } && refusesOnly .x64 {} .auipc { imm := 4096 } { imm := 1 } &&
    refusesOnly .x32 {} .slli { imm := 31 } { imm := 32 } && refusesOnly .x64 {} .cFld { rd := 8, rs1 := 15 } { rd := 7, rs1 := 15 } &&
    refusesOnly .x128 {} .cSlli { rd := 1, rs1 := 1, imm := 64 } { rd := 1, rs1 := 1, imm := 0 } &&
    refusesOnly .x64 { zcmp := true } .cmPush { rlist := 4, imm := -16 } { rlist := 4, imm := -8 } &&
    refusesOnly .x64 { zcmp := true } .cmMva01s { rs1 := 18, rs2 := 23 } { rs1 := 17, rs2 := 23 }) = true := by
  decide +kernel

/-- The row's check refuses what its exclusions and fixed bits leave out. -/
theorem test_wellFormed_row : (refusesOnly .x64 {} .aes64ks1i { rnum := 10 } { rnum := 11 } &&
    refusesOnly .x64 {} .cAddiw { rd := 1, rs1 := 1 } {} && refusesOnly .x64 {} .cLui { rd := 1 } { rd := 2 } &&
    refusesOnly .x64 { zcmp := true } .cFsdsp { rs1 := 2 } { rs1 := 2, imm := 48 } &&
    refusesOnly .x128 { zcmt := true } .cSqsp { rs1 := 2, imm := 16 } { rs1 := 2 } &&
    refusesOnly .x64 {} .vadcVvm {} { vm := 1 } && refusesOnly .x64 {} .vl1re8V { vm := 1 } {} &&
    refusesOnly .x64 {} .vmvVV { vm := 1 } { vm := 1, rs2 := 1 }) = true := by decide +kernel

/-- The name check refuses the canonical opcode of operand fields that the lifter renames, and the other way round. -/
theorem test_wellFormed_name : (refusesOnly .x64 {} .addi { rs1 := 1, imm := 1 } { rs1 := 1 } &&
    refusesOnly .x64 {} .ret { rs1 := 1 } { rs1 := 2 }) = true := by decide +kernel

/-- The slots of R120's last line at XLEN 32: 00 and 01 (`c.subw`, `c.addw`) hold no row there (R4030, R4031), and 10 and 11 the
rows of R4032 to R4038 (assumption log 19), but that of `c.zext.w` (R4037). -/
theorem test_slots_at_xlen32 :
    let dec (w : CodeUnit) : Decoded := decode (at_ .x32 {} [w]).win .x32 {} []
    dec 0x9d1d = .rejected .noRow ∧ dec 0x9f39 = .rejected .noRow ∧ dec 0x9fc1 = .instr .cMul ∧
    dec 0x9ee1 = .instr .cZextB ∧ dec 0x9cf5 = .instr .cNot ∧ dec 0x9cf1 = .rejected .noRow := by decide +kernel

/-! A witness for the hypotheses of each statement. -/

/-- A state that some row of the base tree with this opcode matches. -/
def matchesOp (s : State) (i : Instr) : Bool :=
  baseTree.any (fun r => r.op == i && r.matchesWord s.inst s.instLen s.xlen s.cfg)

/-- What `matchesOp` checks. -/
theorem exists_matchesBase {s : State} {i : Instr} (h : matchesOp s i = true) : ∃ r, s.MatchesBase r ∧ r.op = i := by
  obtain ⟨r, hr, hm⟩ := List.any_eq_true.mp h
  simp only [Bool.and_eq_true, beq_iff_eq] at hm
  exact ⟨r, ⟨hr, hm.2⟩, hm.1⟩

theorem witness_StepRunsTheDecodedOpcode :
    decode (at_ .x64 {} [0x0013, 0]).win .x64 {} [] = .instr .nop ∧
    decode (at_ .x64 {} [0x4501]).win .x64 {} [] = .instr .cLi := by decide +kernel

theorem witness_DecodedIsWellFormed :
    decode (at_ .x32 {} [0x9fc1]).win .x32 {} [] = .instr .cMul ∧
    decode (at_ .x64 { xtheadba := true } [0x100b, 0]).win .x64 { xtheadba := true } [] = .instr .thAddsl := by decide +kernel

/-- Immediates at both ends of their ranges, of a signed and of a scaled codec. -/
theorem witness_ImmediateRanges : (materialize .i 0x80000000 .x64).imm.toInt = -2048 ∧
    (materialize .i 0x7ff00000 .x64).imm.toInt = 2047 ∧ (materialize .ci_lqsp 0xffff .x128).imm.toInt = 1008 ∧
    (materialize .ci_lui 0x107c .x32).imm.toInt = -4096 := by decide +kernel

/-- R5209's example, whose pseudo rule does not hold, and the same word with rs2 = rs1 = 14, where it does (R8061). -/
theorem witness_LaterOpcodesGiveTheirRecord :
    let final (w : Inst) : Option Opcode :=
      match exec .vmandMm (at_ .x64 {} (unitsOf w)) with
      | .next t => some t.record.op
      | _ => none
    final 0x66a72ed7 = some (.std .vmandMm) ∧ final 0x66e72ed7 = some (.std .vmmvM) := by decide +kernel

theorem witness_LittleEndianWords : (at_ .x64 {} (unitsOfBytes (0x82 :: 0x80 :: []))).instLen = 2 ∧
    (at_ .x64 {} (unitsOfBytes (0x13 :: 0 :: 0 :: 0 :: []))).instLen = 4 ∧
    (at_ .x64 {} (unitsOfBytes (0x13 :: 0 :: 0 :: 0 :: [0xff]))).instLen = 4 := by decide +kernel

/-- Two states that agree as far as the instruction goes (length 2, 4, 0 and 6) and nowhere else. -/
theorem witness_LaterUnitsDoNotMatter :
    (at_ .x64 {} [0x4501, 1]).unitAt 0 = (at_ .x64 {} [0x4501, 2]).unitAt 0 ∧ fetchLen 0x4501 ≠ 4 ∧
    (at_ .x64 {} [0x0013, 7, 1]).unitAt 1 = (at_ .x64 {} [0x0013, 7, 2]).unitAt 1 ∧ fetchLen 0x0013 = 4 ∧
    fetchLen 0x007f ≠ 4 ∧ fetchLen 0x001f ≠ 4 := by decide +kernel

/-- Every step answers. It is the witness of the statements whose only premise is that step answers: FintHasNoEffect,
StepMovesByLength, OutputsForgetTheLastDecode, and with `witness_Inv` of StepKeepsConsistency. -/
theorem witness_step_answers (s : State) : ∃ t, step s = .next t := by
  rcases step_cases s with ⟨_, _, h⟩ | ⟨_, _, h⟩ | ⟨_, _, h⟩ <;> exact ⟨_, h⟩

/-- Steps of each kind that OutcomeSelection and IllegalCarriesNoOperands tell apart: length 0, 6 and 8, no row, a zero
immediate that must not be zero, and an opcode. -/
theorem witness_OutcomeSelection : (gives (at_ .x64 {} [0x007f, 0]) {} && gives (at_ .x64 {} [0x001f, 0]) { len := 6 } &&
    gives (at_ .x64 {} [0x003f, 0]) { len := 8 } && gives (at_ .x64 {} [0x002b, 0]) { len := 4 } &&
    gives (at_ .x64 {} [0x0000, 0]) { len := 2 } &&
    gives (at_ .x64 {} [0x0013, 0]) { len := 4, op := .std .nop, codec := .i }) = true := by decide +kernel

theorem witness_IllegalCarriesNoOperands :
    ∃ t, step (at_ .x64 {} [0x0000, 0]) = .next t ∧ t.record.op = .illegal := by
  obtain ⟨t, ht⟩ := witness_step_answers (at_ .x64 {} [0x0000, 0])
  have zero : gives (at_ .x64 {} [0x0000, 0]) { len := 2 } = true := by decide +kernel
  rw [gives, ht, decide_eq_true_eq] at zero
  exact ⟨t, ht, by rw [zero]⟩

/-- Words that no enabled tree holds: custom-1, a vendor word without its flag, lengths 6, 8 and 0. -/
theorem witness_UnmatchedWordIsIllegal :
    ∀ s ∈ [at_ .x64 {} [0x002b, 0], at_ .x64 {} [0x100b, 0], at_ .x64 {} [0x001f, 0], at_ .x64 {} [0x003f, 0],
      at_ .x64 {} [0x007f, 0]], ∀ h, ¬ s.Candidate h := by
  have nothing : [at_ .x64 {} [0x002b, 0], at_ .x64 {} [0x100b, 0], at_ .x64 {} [0x001f, 0], at_ .x64 {} [0x003f, 0],
      at_ .x64 {} [0x007f, 0]].all (fun s => (dispatch s.inst s.instLen s.xlen s.cfg s.vendorRows).isNone) = true := by
    decide +kernel
  intro s hs
  exact not_candidate_of_dispatch_none (Option.isNone_iff_eq_none.mp (List.all_eq_true.mp nothing s hs))

theorem witness_NoTwoRowsMatch :
    ∃ r ∈ allRows, r.matchesWord 0x00000013 4 .x64 {} = true :=
  List.any_eq_true.mp (by decide +kernel : allRows.any (fun r => r.matchesWord 0x00000013 4 .x64 {}) = true)

/-- At the word of a row, entry `k` of the table holds a row, and no earlier entry with a true guard does. -/
def firstAt (s : State) (k : Nat) : Bool :=
  match dispatchTable[k]? with
  | some e => flagHolds s.cfg e.guard && e.tree.rows.any (fun r => r.matchesWord s.inst s.instLen s.xlen s.cfg) &&
      (dispatchTable.take k).all (fun e' => !flagHolds s.cfg e'.guard ||
        (e'.search s.inst s.instLen s.xlen s.cfg s.vendorRows).isNone)
  | none => false

/-- What `firstAt` checks of the earlier entries. -/
theorem no_earlier_row {s : State} {k : Nat} (h : (dispatchTable.take k).all (fun e' => !flagHolds s.cfg e'.guard ||
      (e'.search s.inst s.instLen s.xlen s.cfg s.vendorRows).isNone) = true) (j : Nat) (e' : DispatchEntry) (hj : j < k)
    (he : dispatchTable[j]? = some e') (hg : flagHolds s.cfg e'.guard = true) (hit : Hit) : ¬ EntryHasRow e' s hit := by
  refine not_entryHasRow_of_all (fun e he => List.mem_of_mem_take he) h e' ?_ hg hit
  exact List.mem_of_getElem? (i := j) (by rw [List.getElem?_take, if_pos hj, he])

/-- The first, the second and the last entry of the table. -/
theorem witness_FirstEnabledEntryWins : (firstAt (at_ .x64 allFlags [0x0013, 0]) 0 &&
    firstAt (at_ .x64 allFlags [0x100b, 0]) 1 && firstAt (at_ .x64 allFlags [0x607b, 0]) 12) = true := by decide +kernel

/-- An xthead and an xventana result. -/
theorem witness_VendorOnlyAfterBase :
    (gives (at_ .x64 { xtheadba := true } [0x100b, 0]) { len := 4, catalog := .xthead, op := .std .thAddsl, codec := .r_imm2 } &&
    gives (at_ .x64 { xventanacondops := true } [0x607b, 0])
      { len := 4, catalog := .xventana, op := .std .vtMaskc, codec := .r }) = true := by decide +kernel

theorem witness_BaseRowsIgnoreOtherFlags :
    baseTree.any (fun r => r.op == .cFsdsp) = true ∧ ({ zcmp := true, fint := true } : Cfg).zcmp = allFlags.zcmp := by
  decide +kernel

/-- A state with OPEN rows of xtheadcmo, the second of which its word matches. -/
def openState : State :=
  { at_ .x64 { xtheadcmo := true } [0x000b, 0x0010] with
    vendorRows := [⟨.xtheadcmo, 100, 0xffffffff, 0x0020000b, [.x64], [], .none⟩,
      ⟨.xtheadcmo, 101, 0xffffffff, 0x0010000b, [.x64], [], .r2⟩] }

theorem witness_OpenRowDecodes : (openState.vendorRows.map fun v =>
      v.matchesWord openState.inst openState.instLen openState.xlen) = [false, true] ∧
    (dispatchTable[4]?.map DispatchEntry.tree) = some (.vendorRows .xtheadcmo) ∧
    ((dispatchTable.take 4).all fun e => !flagHolds openState.cfg e.guard ||
      (e.search openState.inst openState.instLen openState.xlen openState.cfg openState.vendorRows).isNone) = true ∧
    gives openState { len := 4, catalog := .xthead, op := .openVendor 101, codec := .r2 } = true := by decide +kernel

theorem witness_ByteLengths : Instr.length .addi = 4 ∧ Instr.length .ret = 4 ∧ Instr.length .thAddsl = 4 ∧
    Instr.length .cLbu = 2 ∧ Instr.target .cLbu .x64 = none ∧ Instr.length .cAddi = 2 ∧
    Instr.target .cAddi .x64 = some .addi ∧ (Instr.descriptor .cAddi).nonzeroImm = true := by decide +kernel

/-- Records for the lifter's clauses: the first rule, a later rule, no rule, a vendor opcode, illegal. -/
theorem witness_LiftTakesTheFirstRule :
    lift { op := .std .addi, codec := .i } = { op := .std .nop, codec := .i } ∧
    lift { op := .std .addi, codec := .i, rd := 1, imm := 1 } = { op := .std .li, codec := .i, rd := 1, imm := 1 } ∧
    lift { op := .std .addi, codec := .i, rs1 := 1, imm := 1 } = { op := .std .addi, codec := .i, rs1 := 1, imm := 1 } ∧
    lift { op := .std .thAddsl, catalog := .xthead } = { op := .std .thAddsl, catalog := .xthead } ∧
    lift { len := 2 } = { len := 2 } := by decide +kernel

/-- `c.addi` with rd 1 and immediate 0: its row matches, its flag is set, it has a target, and its immediate is 0. -/
theorem witness_NonzeroImmediateCheck : ∃ r, (at_ .x64 {} [0x0081]).MatchesBase r ∧ NonzeroImmFails r.op (at_ .x64 {} [0x0081]) := by
  obtain ⟨r, hr, hop⟩ := exists_matchesBase (s := at_ .x64 {} [0x0081]) (i := .cAddi) (by decide +kernel)
  refine ⟨r, hr, ?_⟩
  rw [hop]
  exact ⟨by decide +kernel, by decide +kernel, by decide +kernel⟩

/-- A 16-bit row with a target (`c.ld` at XLEN 64) and one without (`c.lbu`). -/
theorem witness_CompressedWordDecodes :
    (∃ r, (at_ .x64 {} [0x6000]).MatchesBase r ∧ r.op = .cLd) ∧ (∃ r, (at_ .x64 {} [0x8000]).MatchesBase r ∧ r.op = .cLbu) :=
  ⟨exists_matchesBase (by decide +kernel), exists_matchesBase (by decide +kernel)⟩

theorem witness_BaseWordDecodes : ∃ r, (at_ .x64 {} [0x0013, 0]).MatchesBase r ∧ r.op = .addi :=
  exists_matchesBase (by decide +kernel)

/-- A row of the first given vendor tree and one of the last. -/
theorem witness_VendorWordDecodes : ((dispatchTable.drop 1).map fun e => e.tree.rows.any fun r =>
      r.matchesWord 0x0000100b 4 .x64 {} || r.matchesWord 0x0000607b 4 .x64 {}) =
    [true, false, false, false, false, false, false, false, false, false, false, true] := by decide +kernel

/-- A state without OPEN rows whose step answers. -/
theorem witness_OpenTreesAreEmptyByDefault :
    (at_ .x64 allFlags [0x000b, 0]).vendorRows = [] ∧ ∃ t, step (at_ .x64 allFlags [0x000b, 0]) = .next t :=
  ⟨rfl, witness_step_answers _⟩

theorem witness_Inv : State.reset.Inv = true ∧ (at_ .x64 {} [0x0013, 0]).Inv = true := by decide +kernel

/-- Well-formed opcodes of each length and catalog, at boundary operands, and their encodings. -/
theorem witness_DecodeOfEncode : (WellFormed .x64 {} .addi { rd := 31, rs1 := 1, imm := -2048 } &&
    WellFormed .x64 {} .mv { rd := 31, rs1 := 31 } && WellFormed .x64 {} .cAddi { rd := 1, rs1 := 1, imm := -32 } &&
    WellFormed .x128 {} .cSrli { rd := 8, rs1 := 8, imm := 127 } &&
    WellFormed .x64 { xtheadba := true } .thAddsl { imm := 3 }) = true := by decide +kernel

/-- Operand fields that codecs admit, at the ends of their ranges. -/
theorem witness_CodecsInvert : ([(Codec.i, Xlen.x64, ({ imm := -2048 } : Operands)), (.b, .x64, { imm := 4094 }),
    (.j, .x64, { imm := -1048576 }), (.ci_sh, .x128, { imm := 64 }), (.cb_sh, .x128, { rd := 8, rs1 := 8, imm := 127 }),
    (.zcmp_pop, .x32, { rlist := 15, imm := 112 })].all fun (c, x, o) =>
      decide (c.keep o = o) && c.admits x o) = true := by decide +kernel

theorem witness_LengthZeroStops : (at_ .x64 {} [0x007f]).unitAt 0 = 0x007f ∧
    (0x007f : CodeUnit).extractLsb' 0 7 = 0b1111111#7 ∧ (0xffff : CodeUnit).extractLsb' 0 7 = 0b1111111#7 := by decide +kernel

/-! Words of each clause of the statements about words, at boundary values, with what the step gives there. -/

theorem witness_AddiDecodes : (([
    (.x32, {}, 0, 0, 0), (.x64, {}, 0, 31, 1), (.x128, {}, 0x7ff, 0, 31), (.x64, {}, 0x800, 1, 0), (.x64,
    allFlags, 0xfff, 31, 31)] :
    List (Xlen × Cfg × BitVec 12 × RegIdx × RegIdx)).all fun (x, cfg, imm, rs1, rd) =>
  presents32Gives x cfg (imm ++ rs1 ++ 0b000#3 ++ rd ++ 0b0010011#7) fun _ =>
      { len := 4, codec := .i, rd := rd, rs1 := rs1, imm := imm.signExtend 32,
        op := .std (if rd = 0 ∧ rs1 = 0 ∧ imm = 0 then .nop else if imm = 0 then .mv else if rs1 = 0 then .li else .addi) }) = true := by decide +kernel

theorem witness_JalrLiftsInOrder : (([
    (.x64, {}, 0, 1, 0), (.x64, {}, 0, 0, 0), (.x32, {}, 0, 1, 1), (.x128, {}, 1, 1, 0), (.x64, {}, 0, 1, 2)] :
    List (Xlen × Cfg × BitVec 12 × RegIdx × RegIdx)).all fun (x, cfg, imm, rs1, rd) =>
  presents32Gives x cfg (imm ++ rs1 ++ 0b000#3 ++ rd ++ 0b1100111#7) fun _ =>
      { len := 4, codec := .i, rd := rd, rs1 := rs1, imm := imm.signExtend 32,
        op := .std (if rd = 0 ∧ rs1 = 1 ∧ imm = 0 then .ret else if rd = 0 ∧ imm = 0 then .jr
          else if rd = 1 ∧ imm = 0 then .jalrP else .jalr) }) = true := by decide +kernel

theorem witness_BranchesDecode : (([
    (.x64, {}, 1, 0, 0, 1, 0, 0, 0), (.x64, {}, 0, 0x3f, 1, 0, 0, 15, 1), (.x64, {}, 1, 0x3f, 0, 3, 1, 15, 1),
    (.x64, {}, 0, 0, 3, 0, 1, 1, 0), (.x32, {}, 0, 1, 0, 0, 4, 1, 0), (.x32, {}, 0, 1, 1, 0, 4, 1, 0), (.x32,
    {}, 0, 1, 1, 1, 4, 1, 0), (.x32, {}, 0, 1, 0, 0, 5, 1, 0), (.x32, {}, 0, 1, 0, 1, 5, 1, 0), (.x32, {}, 0, 1,
    1, 1, 5, 1, 0), (.x128, {}, 0, 1, 0, 0, 6, 1, 0), (.x128, {}, 0, 1, 0, 0, 7, 1, 0), (.x128, {}, 0, 1, 0, 0,
    2, 1, 0), (.x128, allFlags, 0, 1, 0, 0, 3, 1, 0)] :
    List (Xlen × Cfg × BitVec 1 × BitVec 6 × RegIdx × RegIdx × BitVec 3 × BitVec 4 × BitVec 1)).all fun (x, cfg, b12, hi, rs2, rs1, f3, lo, b11) =>
  presents32Gives x cfg (b12 ++ hi ++ rs2 ++ rs1 ++ f3 ++ lo ++ b11 ++ 0b1100011#7) fun _ =>
      (if f3 = 2 ∨ f3 = 3 then { len := 4 } else
        { len := 4, codec := .b, rs1 := rs1, rs2 := rs2, imm := (b12 ++ b11 ++ hi ++ lo ++ 0#1).signExtend 32,
          op := .std (if f3 = 0 then (if rs2 = 0 then .beqz else .beq)
            else if f3 = 1 then (if rs2 = 0 then .bnez else .bne)
            else if f3 = 4 then (if rs2 = 0 then .bltz else if rs1 = 0 then .bgtz else .blt)
            else if f3 = 5 then (if rs1 = 0 then .blez else if rs2 = 0 then .bgez else .bge)
            else if f3 = 6 then .bltu else .bgeu) })) = true := by decide +kernel

theorem witness_StoreDoubleNeedsXlen64 : (([
    (.x32, {}, 0x40, 31, 2, 0x1f), (.x64, {}, 0x40, 31, 2, 0x1f), (.x128, {}, 0x40, 31, 2, 0x1f)] :
    List (Xlen × Cfg × BitVec 7 × RegIdx × RegIdx × BitVec 5)).all fun (x, cfg, hi, rs2, rs1, lo) =>
  presents32Gives x cfg (hi ++ rs2 ++ rs1 ++ 0b011#3 ++ lo ++ 0b0100011#7) fun s =>
      (if s.xlen = .x32 then { len := 4 } else
        { len := 4, op := .std .sd, codec := .s, rs1 := rs1, rs2 := rs2, imm := (hi ++ lo).signExtend 32 })) = true := by decide +kernel

theorem witness_CsrClearTakesAnyNumber : (([
    (.x64, {}, 0xfff, 1, 0), (.x64, {}, 0, 31, 1)] :
    List (Xlen × Cfg × BitVec 12 × RegIdx × RegIdx)).all fun (x, cfg, csr, rs1, rd) =>
  presents32Gives x cfg (csr ++ rs1 ++ 0b011#3 ++ rd ++ 0b1110011#7) fun _ =>
      { len := 4, codec := .i_csr, rd := rd, rs1 := rs1, csr := csr, op := .std (if rd = 0 then .csrc else .csrrc) }) = true := by decide +kernel

theorem witness_FenceIgnoresUncheckedFields : (([
    (.x64, {}, 8, 3, 3, 0, 0), (.x32, {}, 0, 1, 0, 31, 31)] :
    List (Xlen × Cfg × BitVec 4 × BitVec 4 × BitVec 4 × RegIdx × RegIdx)).all fun (x, cfg, fm, pred, succ, rs1, rd) =>
  presents32Gives x cfg (fm ++ pred ++ succ ++ rs1 ++ 0b000#3 ++ rd ++ 0b0001111#7) fun _ =>
      { len := 4, op := .std .fence, codec := .r_f, pred := pred, succ := succ }) = true := by decide +kernel

theorem witness_AtomicOrderingBits : (([
    (.x64, {}, 1, 0, 1, 2, 3), (.x32, {}, 0, 1, 31, 0, 0)] :
    List (Xlen × Cfg × BitVec 1 × BitVec 1 × RegIdx × RegIdx × RegIdx)).all fun (x, cfg, aq, rl, rs2, rs1, rd) =>
  presents32Gives x cfg (0b00000#5 ++ aq ++ rl ++ rs2 ++ rs1 ++ 0b010#3 ++ rd ++ 0b0101111#7) fun _ =>
      { len := 4, op := .std .amoaddW, codec := .r_a, rd := rd, rs1 := rs1, rs2 := rs2, aq := aq, rl := rl }) = true := by decide +kernel

theorem witness_LoadReservedNeedsZeroRs2 : (([
    (.x64, {}, 1, 0, 0, 2, 3), (.x64, {}, 0, 1, 1, 2, 3)] :
    List (Xlen × Cfg × BitVec 1 × BitVec 1 × RegIdx × RegIdx × RegIdx)).all fun (x, cfg, aq, rl, f, rs1, rd) =>
  presents32Gives x cfg (0b00010#5 ++ aq ++ rl ++ f ++ rs1 ++ 0b010#3 ++ rd ++ 0b0101111#7) fun _ =>
      (if f = 0 then { len := 4, op := .std .lrW, codec := .r_l, rd := rd, rs1 := rs1, aq := aq, rl := rl }
        else { len := 4 })) = true := by decide +kernel

theorem witness_FloatAddTakesAnyRoundingMode : (([
    (.x64, {}, 0, 1, 2, 6, 3), (.x64, {}, 1, 1, 2, 5, 3), (.x64, {}, 2, 1, 2, 6, 3), (.x64, {}, 3, 1, 2, 5, 3)] :
    List (Xlen × Cfg × BitVec 2 × RegIdx × RegIdx × BitVec 3 × RegIdx)).all fun (x, cfg, fmt, rs2, rs1, rm, rd) =>
  presents32Gives x cfg (0b00000#5 ++ fmt ++ rs2 ++ rs1 ++ rm ++ rd ++ 0b1010011#7) fun _ =>
      { len := 4, codec := .r_m, rd := rd, rs1 := rs1, rs2 := rs2, rm := rm,
        op := .std (if fmt = 0 then .faddS else if fmt = 1 then .faddD else if fmt = 2 then .faddH else .faddQ) }) = true := by decide +kernel

theorem witness_FusedMultiplyAddDecodes : (([
    (.x64, {}, 31, 1, 2, 7, 3)] :
    List (Xlen × Cfg × RegIdx × RegIdx × RegIdx × BitVec 3 × RegIdx)).all fun (x, cfg, rs3, rs2, rs1, rm, rd) =>
  presents32Gives x cfg (rs3 ++ 0b01#2 ++ rs2 ++ rs1 ++ rm ++ rd ++ 0b1000011#7) fun _ =>
      { len := 4, op := .std .fmaddD, codec := .r4_m, rd := rd, rs1 := rs1, rs2 := rs2, rs3 := rs3, rm := rm }) = true := by decide +kernel

theorem witness_AesRoundNumbers : (([
    (.x64, {}, 10, 1, 2), (.x64, {}, 11, 1, 2), (.x32, {}, 0, 1, 2), (.x128, {}, 10, 1, 2)] :
    List (Xlen × Cfg × BitVec 4 × RegIdx × RegIdx)).all fun (x, cfg, rnum, rs1, rd) =>
  presents32Gives x cfg (0b00110001#8 ++ rnum ++ rs1 ++ 0b001#3 ++ rd ++ 0b0010011#7) fun s =>
      (if s.xlen = .x64 ∧ rnum.toNat ≤ 10 then
          { len := 4, op := .std .aes64ks1i, codec := .k_rnum, rd := rd, rs1 := rs1, rnum := rnum }
        else { len := 4 })) = true := by decide +kernel

theorem witness_CompressedFlwOrLd : (([
    (.x32, {}, 5, 7, 1, 0, 2), (.x64, {}, 5, 7, 1, 0, 2), (.x128, {}, 5, 7, 1, 0, 2)] :
    List (Xlen × Cfg × BitVec 3 × BitVec 3 × BitVec 1 × BitVec 1 × BitVec 3)).all fun (x, cfg, hi, rs1p, b6, b5, rdp) =>
  presents16Gives x cfg (0b011#3 ++ hi ++ rs1p ++ b6 ++ b5 ++ rdp ++ 0b00#2) fun s =>
      (if s.xlen = .x32 then
          { len := 2, op := .std .flw, codec := .i, rd := 0b01#2 ++ rdp, rs1 := 0b01#2 ++ rs1p,
            imm := (b5 ++ hi ++ b6 ++ 0#2).setWidth 32 }
        else { len := 2, op := .std .ld, codec := .i, rd := 0b01#2 ++ rdp, rs1 := 0b01#2 ++ rs1p,
               imm := (b6 ++ b5 ++ hi ++ 0#3).setWidth 32 })) = true := by decide +kernel

theorem witness_PushOrCompressedStore : (([
    (.x64, { zcmp := true }, 3, 3), (.x64, { zcmp := true }, 4, 0), (.x32, { zcmp := true }, 15, 3), (.x32, {},
    4, 1), (.x64, {}, 15, 3), (.x128, {}, 9, 2)] :
    List (Xlen × Cfg × BitVec 4 × BitVec 2)).all fun (x, cfg, rlist, spimm) =>
  presents16Gives x cfg (0b10111000#8 ++ rlist ++ spimm ++ 0b10#2) fun s =>
      (if s.cfg.zcmp = true then
          (if rlist.toNat < 4 then { len := 2 }
           else { len := 2, op := .std .cmPush, codec := .zcmp_push, rlist := rlist,
                  imm := -BitVec.ofNat 32 (stackAdj rlist spimm s.xlen) })
        else if s.xlen = .x128 then
          { len := 2, op := .std .sq, codec := .s, rs1 := 2, rs2 := rlist.extractLsb' 0 3 ++ spimm,
            imm := (rlist.extractLsb' 3 1 ++ 0b11#2 ++ 0#4).setWidth 32 }
        else
          { len := 2, op := .std .fsd, codec := .s, rs1 := 2, rs2 := rlist.extractLsb' 0 3 ++ spimm,
            imm := (rlist.extractLsb' 3 1 ++ 0b110#3 ++ 0#3).setWidth 32 })) = true := by decide +kernel

theorem witness_VectorImmediateIsSignedForAdd : (([
    (.x64, {}, 0, 1, 16, 2), (.x64, {}, 1, 1, 15, 2)] :
    List (Xlen × Cfg × BitVec 1 × RegIdx × BitVec 5 × RegIdx)).all fun (x, cfg, vm, vs2, simm, vd) =>
  presents32Gives x cfg (0b000000#6 ++ vm ++ vs2 ++ simm ++ 0b011#3 ++ vd ++ 0b1010111#7) fun _ =>
      { len := 4, op := .std .vaddVi, codec := .v_i, rd := vd, rs2 := vs2, vm := vm, imm := simm.signExtend 32 }) = true := by decide +kernel

theorem witness_VectorImmediateIsUnsignedForShift : (([
    (.x64, {}, 0, 1, 31, 2)] :
    List (Xlen × Cfg × BitVec 1 × RegIdx × BitVec 5 × RegIdx)).all fun (x, cfg, vm, vs2, uimm, vd) =>
  presents32Gives x cfg (0b100101#6 ++ vm ++ vs2 ++ uimm ++ 0b011#3 ++ vd ++ 0b1010111#7) fun _ =>
      { len := 4, op := .std .vsllVi, codec := .v_iu, rd := vd, rs2 := vs2, vm := vm, imm := uimm.setWidth 32 }) = true := by decide +kernel

theorem witness_VsetivliDecodes : (([
    (.x64, {}, 0x3ff, 31, 5)] :
    List (Xlen × Cfg × BitVec 10 × BitVec 5 × RegIdx)).all fun (x, cfg, zimm, uimm, rd) =>
  presents32Gives x cfg (0b11#2 ++ zimm ++ uimm ++ 0b111#3 ++ rd ++ 0b1010111#7) fun _ =>
      { len := 4, op := .std .vsetivli, codec := .vsetivli, rd := rd, imm := uimm.setWidth 32, vzimm := zimm.setWidth 11 }) = true := by decide +kernel

theorem witness_SegmentLoadsByCount : (([
    (.x64, {}, 0, 0, 0, 3, 4), (.x64, {}, 1, 0, 1, 3, 4), (.x64, {}, 2, 0, 0, 3, 4), (.x64, {}, 3, 0, 1, 3, 4),
    (.x64, {}, 4, 0, 0, 3, 4), (.x64, {}, 5, 0, 1, 3, 4), (.x64, {}, 6, 0, 0, 3, 4), (.x64, {}, 7, 0, 1, 3, 4),
    (.x32, {}, 0, 1, 1, 3, 4)] :
    List (Xlen × Cfg × BitVec 3 × BitVec 1 × BitVec 1 × RegIdx × RegIdx)).all fun (x, cfg, nf, mew, vm, rs1, rd) =>
  presents32Gives x cfg (nf ++ mew ++ 0b00#2 ++ vm ++ 0b00000#5 ++ rs1 ++ 0b110#3 ++ rd ++ 0b0000111#7) fun _ =>
      (if mew = 1 then { len := 4 } else
        { len := 4, codec := .v_ldst_u, rd := rd, rs1 := rs1, vm := vm,
          op := .std (if nf = 0 then .vle32V else if nf = 1 then .vlseg2e32V else if nf = 2 then .vlseg3e32V
            else if nf = 3 then .vlseg4e32V else if nf = 4 then .vlseg5e32V else if nf = 5 then .vlseg6e32V
            else if nf = 6 then .vlseg7e32V else .vlseg8e32V) })) = true := by decide +kernel

theorem witness_TheadAddslNeedsItsFlag : (([
    (.x64, { xtheadba := true }, 3, 1, 2, 3), (.x64, { xtheadbb := true, xtheadbs := true, xventanacondops :=
    true }, 3, 1, 2, 3)] :
    List (Xlen × Cfg × BitVec 2 × RegIdx × RegIdx × RegIdx)).all fun (x, cfg, imm2, rs2, rs1, rd) =>
  presents32Gives x cfg (0b00000#5 ++ imm2 ++ rs2 ++ rs1 ++ 0b001#3 ++ rd ++ 0b0001011#7) fun s =>
      (if s.cfg.xtheadba = true then
          { len := 4, catalog := .xthead, op := .std .thAddsl, codec := .r_imm2, rd := rd, rs1 := rs1, rs2 := rs2,
            imm := imm2.setWidth 32 }
        else { len := 4 })) = true := by decide +kernel

theorem witness_TheadExtHasTwoImmediates : (([
    (.x64, { xtheadbb := true }, 0x3f, 1, 2, 3)] :
    List (Xlen × Cfg × BitVec 6 × BitVec 6 × RegIdx × RegIdx)).all fun (x, cfg, immh, imml, rs1, rd) =>
  presents32Gives x cfg (immh ++ imml ++ rs1 ++ 0b010#3 ++ rd ++ 0b0001011#7) fun _ =>
      { len := 4, catalog := .xthead, op := .std .thExt, codec := .r2_immhl, rd := rd, rs1 := rs1, imm := immh.setWidth 32,
        imm1 := imml.setWidth 32 }) = true := by decide +kernel

theorem witness_VentanaMaskDecodes : (([
    (.x64, { xventanacondops := true }, 1, 2, 0, 3), (.x128, { xventanacondops := true }, 1, 2, 1, 3), (.x128,
    {}, 1, 2, 1, 3)] :
    List (Xlen × Cfg × RegIdx × RegIdx × BitVec 1 × RegIdx)).all fun (x, cfg, rs2, rs1, n, rd) =>
  presents32Gives x cfg (0b0000000#7 ++ rs2 ++ rs1 ++ 0b11#2 ++ n ++ rd ++ 0b1111011#7) fun s =>
      (if s.cfg.xventanacondops = true then
          { len := 4, catalog := .xventana, op := .std (if n = 0 then .vtMaskc else .vtMaskcn), codec := .r, rd := rd,
            rs1 := rs1, rs2 := rs2 }
        else { len := 4 })) = true := by decide +kernel

end Sys2Proof.Tests
end

section
/-! Rules about what a decode reads of the configuration and of the dispatcher table, and the statements of 00_scope.md
settled with them. -/

/-! ### What a decode reads of the configuration -/

namespace Sys2Proof

/-- The flags that bear on a row: the one it requires and those of its exclusions (R115, R116). -/
def Row.gates (r : Row) : List (Option Flag) := r.flag :: r.excl.map Excl.flag

/-- An exclusion reads its own flag alone of the configuration. -/
theorem Excl.hits_congr {e : Excl} {c₁ c₂ : Cfg} (h : flagHolds c₁ e.flag = flagHolds c₂ e.flag) (w : Inst) (x : Xlen) :
    e.hits w x c₁ = e.hits w x c₂ := by
  rw [Excl.hits, Excl.hits, h]

/-- A row reads its gates alone of the configuration. -/
theorem Row.matchesWord_congr {r : Row} {c₁ c₂ : Cfg} (h : ∀ g ∈ r.gates, flagHolds c₁ g = flagHolds c₂ g)
    (w : Inst) (len : Nat) (x : Xlen) : r.matchesWord w len x c₁ = r.matchesWord w len x c₂ := by
  have flag_agrees : flagHolds c₁ r.flag = flagHolds c₂ r.flag := h _ List.mem_cons_self
  have excl_agree : r.excl.any (fun e => e.hits w x c₁) = r.excl.any (fun e => e.hits w x c₂) := by
    rw [Bool.eq_iff_iff, List.any_eq_true, List.any_eq_true]
    refine exists_congr fun e => and_congr_right fun he => ?_
    rw [Excl.hits_congr (h _ (List.mem_cons_of_mem _ (List.mem_map_of_mem he)))]
  rw [Row.matchesWord, Row.matchesWord, flag_agrees, excl_agree]

/-- Of the rows that the spec gives, none is gated by a flag other than zcmp and zcmt (R116). -/
theorem allRows_gates : allRows.all (fun r => r.gates.all ([none, some Flag.zcmp, some Flag.zcmt].contains ·)) = true := by
  decide +kernel

/-- Of the rows of the base tree, only those of the eight `cm` opcodes require a flag (R116). -/
theorem baseTree_flags : baseTree.all (fun r => decide (r.flag = none) || decide (r.op ∈
    [Instr.cmPush, .cmPop, .cmPopretz, .cmPopret, .cmMvsa01, .cmMva01s, .cmJt, .cmJalt])) = true := by
  decide +kernel

/-- The rows of an entry's tree are among those that the spec gives. -/
theorem mem_allRows {e : DispatchEntry} (he : e ∈ dispatchTable) {r : Row} (hr : r ∈ e.tree.rows) : r ∈ allRows :=
  List.mem_flatMap_of_mem he hr

/-- The base tree is the tree of entry 0 (R201). -/
theorem mem_allRows_of_baseTree {r : Row} (hr : r ∈ baseTree) : r ∈ allRows :=
  mem_allRows (e := ⟨none, .base, .given baseParts⟩) List.mem_cons_self hr

/-- A row that the spec gives matches alike under configurations that agree on zcmp and zcmt (R11, R116). -/
theorem matchesWord_congr_of_zcm {r : Row} (hr : r ∈ allRows) {c₁ c₂ : Cfg} (hzcmp : c₁.zcmp = c₂.zcmp)
    (hzcmt : c₁.zcmt = c₂.zcmt) (w : Inst) (len : Nat) (x : Xlen) :
    r.matchesWord w len x c₁ = r.matchesWord w len x c₂ := by
  refine Row.matchesWord_congr (fun g hg => ?_) w len x
  have gate := List.all_eq_true.mp (List.all_eq_true.mp allRows_gates r hr) g hg
  rw [List.contains_iff_mem] at gate
  simp only [List.mem_cons, List.not_mem_nil, or_false] at gate
  rcases gate with rfl | rfl | rfl
  · rfl
  · exact hzcmp
  · exact hzcmt

/-- An entry finds the same row under configurations that agree on zcmp and zcmt. -/
theorem search_congr_of_zcm {e : DispatchEntry} (he : e ∈ dispatchTable) {c₁ c₂ : Cfg} (hzcmp : c₁.zcmp = c₂.zcmp)
    (hzcmt : c₁.zcmt = c₂.zcmt) (w : Inst) (len : Nat) (x : Xlen) (vr : List VendorRow) :
    e.search w len x c₁ vr = e.search w len x c₂ vr := by
  rcases ht : e.tree with parts | f
  · rw [search_eq_find? he ht, search_eq_find? he ht]
    exact congrArg _ (List.find?_congr fun r hr =>
      matchesWord_congr_of_zcm (mem_allRows he hr) hzcmp hzcmt w len x)
  · rw [DispatchEntry.search, DispatchEntry.search, ht]

/-- Two configurations agree on every flag outside a list. -/
def Cfg.AgreeOutside (fs : List Flag) (c₁ c₂ : Cfg) : Prop := ∀ f, f ∉ fs → c₁.get f = c₂.get f

/-- A configuration with another fint agrees with it outside fint. -/
theorem agreeOutside_fint (c : Cfg) (b : Bool) : Cfg.AgreeOutside [.fint] { c with fint := b } c := by
  intro f hf
  cases f
  case fint => exact absurd List.mem_cons_self hf
  all_goals rfl

/-- The dispatcher answers alike under configurations that agree outside `fs`, where no row is gated by `fs` and every
entry that `fs` guards finds nothing (R202). -/
theorem dispatch_congr_of_agree {fs : List Flag} {c₁ c₂ : Cfg} (hagree : c₁.AgreeOutside fs c₂) (hzcmp : .zcmp ∉ fs)
    (hzcmt : .zcmt ∉ fs) {w : Inst} {len : Nat} {x : Xlen} {vr : List VendorRow}
    (hguard : ∀ e ∈ dispatchTable, ∀ f ∈ fs, e.guard = some f → e.search w len x c₂ vr = none) :
    dispatch w len x c₁ vr = dispatch w len x c₂ vr := by
  have entry_agrees : ∀ e ∈ dispatchTable,
      (if flagHolds c₁ e.guard then e.search w len x c₁ vr else none) =
        (if flagHolds c₂ e.guard then e.search w len x c₂ vr else none) := by
    intro e he
    rw [search_congr_of_zcm he (hagree .zcmp hzcmp) (hagree .zcmt hzcmt)]
    rcases hg : e.guard with _ | f
    · rfl
    · by_cases hf : f ∈ fs
      · simp only [hguard e he f hf hg, ite_self]
      · have guard_agrees : flagHolds c₁ (some f) = flagHolds c₂ (some f) := hagree f hf
        rw [guard_agrees]
  rw [dispatch, dispatch, ← List.head?_filterMap, ← List.head?_filterMap, List.filterMap_congr entry_agrees]

/-- The decoder reads the configuration through the dispatcher alone (R200). -/
theorem decode_congr_of_dispatch {c₁ c₂ : Cfg} {x : Xlen} {vr : List VendorRow}
    (h : ∀ w len, dispatch w len x c₁ vr = dispatch w len x c₂ vr) (win : Window) :
    decode win x c₁ vr = decode win x c₂ vr := by
  simp only [decode, h]

/-! ### The dispatcher table -/

/-- The flags whose trees are the OPEN parameter (R10). -/
def openFlags : List Flag :=
  [.xtheadcmo, .xtheadfmemidx, .xtheadfmv, .xtheadmac, .xtheadmemidx, .xtheadmempair, .xtheadsync]

/-- A configuration with other OPEN flags agrees with it outside them. -/
theorem agreeOutside_openFlags (c : Cfg) (b₁ b₂ b₃ b₄ b₅ b₆ b₇ : Bool) :
    Cfg.AgreeOutside openFlags { c with xtheadcmo := b₁, xtheadfmemidx := b₂, xtheadfmv := b₃, xtheadmac := b₄,
                                        xtheadmemidx := b₅, xtheadmempair := b₆, xtheadsync := b₇ } c := by
  intro f hf
  cases f
  case xtheadcmo | xtheadfmemidx | xtheadfmv | xtheadmac | xtheadmemidx | xtheadmempair | xtheadsync =>
    exact absurd (by decide) hf
  all_goals rfl

/-- An entry has a tree that the spec gives, which neither fint nor an OPEN flag guards, or the OPEN tree of its guard
(R9, R10, R201). -/
theorem entry_cases {e : DispatchEntry} (he : e ∈ dispatchTable) :
    (∃ parts, e.tree = .given parts ∧ ∀ f ∈ .fint :: openFlags, e.guard ≠ some f) ∨
    (∃ f ∈ openFlags, e = ⟨some f, .xthead, .vendorRows f⟩) := by
  simp only [dispatchTable, List.mem_cons, List.not_mem_nil, or_false] at he
  rcases he with rfl | rfl | rfl | rfl | rfl | rfl | rfl | rfl | rfl | rfl | rfl | rfl | rfl
  iterate 4 exact .inl ⟨_, rfl, by decide⟩
  · exact .inr ⟨_, by decide, rfl⟩
  · exact .inl ⟨_, rfl, by decide⟩
  iterate 6 exact .inr ⟨_, by decide, rfl⟩
  · exact .inl ⟨_, rfl, by decide⟩

/-- An entry with an OPEN tree is guarded by the tree's flag and is of the xthead catalog (R10, R201). -/
theorem entry_of_openTree {e : DispatchEntry} (he : e ∈ dispatchTable) {f : Flag} (ht : e.tree = .vendorRows f) :
    e = ⟨some f, .xthead, .vendorRows f⟩ := by
  rcases entry_cases he with ⟨parts, hgiven, -⟩ | ⟨f', -, rfl⟩
  · rw [hgiven] at ht
    cases ht
  · cases ht
    rfl

/-- An entry that an OPEN flag guards has that flag's OPEN tree (R201). -/
theorem tree_of_openFlag {e : DispatchEntry} (he : e ∈ dispatchTable) {f : Flag} (hf : f ∈ openFlags)
    (hg : e.guard = some f) : e.tree = .vendorRows f := by
  rcases entry_cases he with ⟨-, -, hne⟩ | ⟨f', -, rfl⟩
  · exact absurd hg (hne f (List.mem_cons_of_mem _ hf))
  · cases hg
    rfl

/-- No entry is guarded by fint (R9, R201). -/
theorem guard_ne_fint {e : DispatchEntry} (he : e ∈ dispatchTable) : e.guard ≠ some .fint := by
  rcases entry_cases he with ⟨-, -, hne⟩ | ⟨f, hf, rfl⟩
  · exact hne .fint List.mem_cons_self
  · rintro ⟨⟩
    exact absurd hf (by decide)

/-- Without OPEN rows an OPEN tree finds nothing (R10). -/
theorem search_openTree_nil {e : DispatchEntry} {f : Flag} (ht : e.tree = .vendorRows f) (w : Inst) (len : Nat)
    (x : Xlen) (cfg : Cfg) : e.search w len x cfg [] = none := by
  rw [DispatchEntry.search, ht]
  rfl

end Sys2Proof

namespace Sys2Proof.Machine

/-- What an entry finds is a matching row of its tree (R203). -/
theorem entryHasRow_of_search {e : DispatchEntry} (he : e ∈ dispatchTable) {s : State} {h : Hit}
    (hs : e.search s.inst s.instLen s.xlen s.cfg s.vendorRows = some h) : EntryHasRow e s h := by
  rcases ht : e.tree with parts | f
  · rw [search_eq_find? he ht, Option.map_eq_some_iff] at hs
    obtain ⟨r, hr, rfl⟩ := hs
    have hmatch := List.find?_some hr
    exact ⟨rfl, List.mem_of_find?_eq_some hr, hmatch⟩
  · rw [DispatchEntry.search, ht] at hs
    obtain ⟨v, hv, rfl⟩ := Option.map_eq_some_iff.mp hs
    have found := List.find?_some hv
    rw [Bool.and_eq_true, beq_iff_eq] at found
    obtain ⟨htree, hmatch⟩ := found
    exact ⟨rfl, by rw [ht, htree], List.mem_of_find?_eq_some hv, hmatch⟩

/-- The dispatcher answers what entry `k` finds, where the guard of `k` is true and no earlier enabled entry holds a
matching row (R202). -/
theorem dispatch_eq_of_first {s : State} {k : Nat} {e : DispatchEntry} {h : Hit} (hk : dispatchTable[k]? = some e)
    (hg : flagHolds s.cfg e.guard = true) (hs : e.search s.inst s.instLen s.xlen s.cfg s.vendorRows = some h)
    (hearlier : ∀ (j : Nat) (e' : DispatchEntry), j < k → dispatchTable[j]? = some e' →
      flagHolds s.cfg e'.guard = true → ∀ h, ¬ EntryHasRow e' s h) :
    dispatch s.inst s.instLen s.xlen s.cfg s.vendorRows = some h := by
  obtain ⟨hlt, rfl⟩ := List.getElem?_eq_some_iff.mp hk
  refine List.findSome?_eq_some_iff.mpr ⟨dispatchTable.take k, dispatchTable[k], dispatchTable.drop (k + 1), ?_,
    by rw [if_pos hg, hs], fun e' he' => ?_⟩
  · rw [← List.drop_eq_getElem_cons hlt, List.take_append_drop]
  · obtain ⟨j, hj, rfl⟩ := List.mem_take_iff_getElem.mp he'
    obtain ⟨hjk, hjl⟩ := lt_min_iff.mp hj
    by_cases hg' : flagHolds s.cfg dispatchTable[j].guard = true
    · rw [if_pos hg', Option.eq_none_iff_forall_not_mem]
      exact fun h' hs' => hearlier j _ hjk (List.getElem?_eq_getElem hjl) hg' h'
        (entryHasRow_of_search (List.getElem_mem hjl) hs')
    · rw [if_neg hg']

/-- An OPEN tree finds the first row of its flag in the caller's list that matches (R10; assumption log 8). -/
theorem search_openTree_of_first {e : DispatchEntry} {v : VendorRow} {pre post : List VendorRow}
    (ht : e.tree = .vendorRows v.tree) {w : Inst} {len : Nat} {x : Xlen} (hv : v.matchesWord w len x = true)
    (hpre : ∀ u ∈ pre, u.tree = v.tree → u.matchesWord w len x = false) (cfg : Cfg) :
    e.search w len x cfg (pre ++ v :: post) = some (.openRow e.catalog v) := by
  have found : (pre ++ v :: post).find? (fun u => u.tree == v.tree && u.matchesWord w len x) = some v := by
    refine List.find?_eq_some_iff_append.mpr ⟨by simp [hv], pre, post, rfl, fun u hu => ?_⟩
    by_cases htree : u.tree = v.tree
    · simp [hpre u hu htree]
    · simp [htree]
  rw [DispatchEntry.search, ht]
  exact congrArg (Option.map _) found

/-- An OPEN row matches 32-bit words alone (R110, R203). -/
theorem len_of_vendorRow_matches {v : VendorRow} {w : Inst} {len : Nat} {x : Xlen} (h : v.matchesWord w len x = true) :
    len = 4 := by
  simp only [VendorRow.matchesWord, Bool.and_eq_true, beq_iff_eq] at h
  obtain ⟨⟨⟨-, hlen⟩, -⟩, -⟩ := h
  exact hlen

/-- Where the dispatcher finds an OPEN row, so does the decoder, at every length but 0. -/
theorem decode_of_dispatch_openRow {s : State} {c : Catalog} {v : VendorRow} (hlen : s.instLen ≠ 0)
    (hd : dispatch s.inst s.instLen s.xlen s.cfg s.vendorRows = some (.openRow c v)) :
    decode s.win s.xlen s.cfg s.vendorRows = .openRow v := by
  rw [State.inst] at hd
  simp only [decode, State.instLen] at hd hlen ⊢
  rw [if_neg hlen, hd]

/-! ### One step as one equation -/

/-- The record that a state's decode drives, for what the decoder found (R200). -/
def decodedRecord (d : Decoded) (s : State) : DecodedRecord :=
  match d with
  | .instr i => lift (expand s.xlen (s.materialized i.catalog (.std i) i.codec))
  | .openRow v => s.materialized .xthead (.openVendor v.id) v.codec
  | .rejected _ => illegalRecord s.instLen

/-- A step outputs the record of what the decoder found, and the caller moves past it (R200, R9018). -/
theorem step_eq_decodedRecord (s : State) :
    step s = .next (s.output (decodedRecord (decode s.win s.xlen s.cfg s.vendorRows) s)).advance := by
  rcases step_cases s with ⟨i, hd, hs⟩ | ⟨v, hd, hs⟩ | ⟨why, hd, hs⟩ <;> rw [hs, hd, decodedRecord]

/-- The step gives the record of what the decoder found. -/
theorem stepGives_decodedRecord (s : State) :
    StepGives s (decodedRecord (decode s.win s.xlen s.cfg s.vendorRows) s) :=
  step_eq_decodedRecord s

/-- Beyond what the decoder found, the record does not depend on the configuration. -/
theorem decodedRecord_cfg (d : Decoded) (s : State) (c : Cfg) :
    decodedRecord d { s with cfg := c } = decodedRecord d s := by
  cases d <;> rfl

/-- Under a configuration at which the decoder finds the same, the step answers the same state but for it. -/
theorem step_cfg_of_decode {s t : State} {c : Cfg}
    (hd : decode s.win s.xlen c s.vendorRows = decode s.win s.xlen s.cfg s.vendorRows) (hs : step s = .next t) :
    step { s with cfg := c } = .next { t with cfg := c } := by
  rw [step_eq_decodedRecord, Host.Outcome.next.injEq] at hs
  subst hs
  rw [step_eq_decodedRecord, decodedRecord_cfg]
  exact congrArg (fun d => Host.Outcome.next (State.output { s with cfg := c } (decodedRecord d s)).advance) hd

/-- Flags that gate no row and guard no entry that finds a row change no output. -/
theorem step_cfg_of_agree {s t : State} {c : Cfg} {fs : List Flag} (hagree : c.AgreeOutside fs s.cfg)
    (hzcmp : .zcmp ∉ fs) (hzcmt : .zcmt ∉ fs)
    (hguard : ∀ e ∈ dispatchTable, ∀ f ∈ fs, e.guard = some f →
      ∀ w len, e.search w len s.xlen s.cfg s.vendorRows = none)
    (hs : step s = .next t) : step { s with cfg := c } = .next { t with cfg := c } :=
  step_cfg_of_decode (decode_congr_of_dispatch (fun w len => dispatch_congr_of_agree hagree hzcmp hzcmt
    fun e he f hf hg => hguard e he f hf hg w len) s.win) hs

/-! ### The statements -/

/-- Settles O13: the gates of the given rows are zcmp and zcmt alone, and only the `cm` opcodes require one. -/
theorem baseRowsIgnoreOtherFlags : Obligations.BaseRowsIgnoreOtherFlags := by
  intro r hr
  refine ⟨fun w len x c₁ c₂ hzcmp hzcmt =>
    matchesWord_congr_of_zcm (mem_allRows_of_baseTree hr) hzcmp hzcmt w len x, fun hop => ?_⟩
  have flag_or_cm := List.all_eq_true.mp baseTree_flags r hr
  rw [Bool.or_eq_true, decide_eq_true_eq, decide_eq_true_eq] at flag_or_cm
  exact flag_or_cm.resolve_right hop

/-- Settles O14: fint gates no row and guards no entry. -/
theorem fintHasNoEffect : Obligations.FintHasNoEffect := by
  intro s t b hs
  refine step_cfg_of_agree (agreeOutside_fint s.cfg b) (by decide) (by decide) ?_ hs
  intro e he f hf hg
  rw [List.mem_singleton.mp hf] at hg
  exact absurd hg (guard_ne_fint he)

/-- Settles O15: the OPEN flags gate no row, and each guards an OPEN tree, which is empty. -/
theorem openTreesAreEmptyByDefault : Obligations.OpenTreesAreEmptyByDefault := by
  intro s t b₁ b₂ b₃ b₄ b₅ b₆ b₇ hvr hs
  refine step_cfg_of_agree (agreeOutside_openFlags s.cfg b₁ b₂ b₃ b₄ b₅ b₆ b₇) (by decide) (by decide) ?_ hs
  intro e he f hf hg w len
  rw [hvr]
  exact search_openTree_nil (tree_of_openFlag he hf hg) w len s.xlen s.cfg

/-- Settles O16: the dispatcher stops at entry `k`, whose search stops at `v`. -/
theorem openRowDecodes : Obligations.OpenRowDecodes := by
  intro s k e pre post v hk ht hflag hvr hpre hv hearlier
  obtain rfl := entry_of_openTree (List.mem_of_getElem? hk) ht
  have hlen : s.instLen = 4 := len_of_vendorRow_matches hv
  have found : dispatch s.inst s.instLen s.xlen s.cfg s.vendorRows = some (.openRow .xthead v) := by
    refine dispatch_eq_of_first hk hflag ?_ hearlier
    rw [hvr]
    exact search_openTree_of_first rfl hv hpre s.cfg
  have gives := stepGives_decodedRecord s
  rw [decode_of_dispatch_openRow (by omega) found, decodedRecord, State.materialized, hlen] at gives
  exact gives

end Sys2Proof.Machine
end

section
/-! Rules about the descriptors that a rename goes between, about the record that a decode drives and about what the
dispatcher finds, and the statements of 10_state.md settled with them. -/

/-! ### The descriptors on both sides of a rename -/

namespace Sys2Proof

/-- The codecs of the 16-bit opcodes whose decompression targets have this codec (R208, 44_compressed.md). -/
def Codec.compressed (c : Codec) : List Codec :=
  match c with
  | .none => [.ci_none]
  | .u => [.ci_lui]
  | .j => [.cj, .cj_jal]
  | .i => [.ci_none, .ciw_4spn, .cl_lw, .cl_ld, .cl_lq, .ci, .ci_li, .ci_16sp, .cb_imm, .ci_lwsp, .ci_ldsp, .ci_lqsp,
      .cr_mv, .cr_jr, .cr_jalr]
  | .i_sh => [.ci_sh, .cb_sh]
  | .s => [.cs_sw, .cs_sd, .cs_sq, .css_swsp, .css_sdsp, .css_sqsp]
  | .b => [.cb]
  | .r => [.cr, .cs]
  | _ => []

/-- The materializer leaves the fields its codec does not write 0 (R207). -/
theorem keep_materialize (c : Codec) (w : Inst) (x : Xlen) : c.keep (materialize c w x) = materialize c w x := by
  cases c <;> rfl

/-- Where a 16-bit opcode's codec gives a nonzero value, its target's codec writes that field too (R207, R208). -/
theorem keep_materialize_compressed {c d : Codec} (h : c ∈ d.compressed) (w : Inst) (x : Xlen) :
    d.keep (materialize c w x) = materialize c w x := by
  cases d <;> simp only [Codec.compressed, List.mem_cons, List.not_mem_nil, or_false] at h
  case none | u | b => subst h; rfl
  case j | i_sh | r => rcases h with rfl | rfl <;> rfl
  case s => rcases h with rfl | rfl | rfl | rfl | rfl | rfl <;> rfl
  case i =>
    rcases h with rfl | rfl | rfl | rfl | rfl | rfl | rfl | rfl | rfl | rfl | rfl | rfl | rfl | rfl | rfl <;> rfl

/-- Every decompression target is a 32-bit opcode of the same catalog, with a codec that covers the 16-bit one's. -/
theorem all_targets_coherent (i : Instr) : xAll.all (fun x => (i.target x).all (fun t =>
    t.catalog == i.catalog && t.length == 4 && t.codec.compressed.contains i.codec)) = true := by
  cases i <;> rfl

/-- What a decompression target shares with its 16-bit opcode (R208). -/
theorem target_coherent {i t : Instr} {x : Xlen} (h : i.target x = some t) :
    t.catalog = i.catalog ∧ t.length = 4 ∧ i.codec ∈ t.codec.compressed := by
  have coherent := List.all_eq_true.mp (all_targets_coherent i) x (by cases x <;> decide)
  rw [h] at coherent
  simpa only [Option.all_some, Bool.and_eq_true, beq_iff_eq, List.contains_iff_mem, and_assoc] using coherent

/-- Every pseudo rule stays among the 32-bit base opcodes and keeps the codec; its opcode has no list of its own. -/
theorem all_pseudo_coherent (i : Instr) : i.descriptor.pseudo.all (fun p =>
    i.catalog == .base && i.length == 4 && p.op.catalog == .base && p.op.length == 4 && p.op.codec == i.codec
      && p.op.descriptor.pseudo.isEmpty) = true := by
  cases i <;> rfl

/-- What a pseudo-opcode shares with the opcode whose list gives it (R211, R212). -/
theorem pseudo_coherent {i : Instr} {p : PseudoRule} (h : p ∈ i.descriptor.pseudo) :
    i.catalog = .base ∧ i.length = 4 ∧ p.op.catalog = .base ∧ p.op.length = 4 ∧ p.op.codec = i.codec ∧
      p.op.descriptor.pseudo = [] := by
  have coherent := List.all_eq_true.mp (all_pseudo_coherent i) p h
  simpa only [Bool.and_eq_true, beq_iff_eq, List.isEmpty_iff, and_assoc] using coherent

/-- The lifter's name for an opcode is the opcode's own, or that of a rule of its list (R211). -/
theorem lifted_cases (i : Instr) (o : Operands) :
    (i.descriptor.pseudo.find? (PseudoRule.holds o) = none ∧ i.lifted o = i) ∨
    (∃ p ∈ i.descriptor.pseudo, i.descriptor.pseudo.find? (PseudoRule.holds o) = some p ∧ i.lifted o = p.op) := by
  rcases hf : i.descriptor.pseudo.find? (PseudoRule.holds o) with _ | p
  · exact .inl ⟨rfl, by rw [Instr.lifted, hf]⟩
  · exact .inr ⟨p, List.mem_of_find?_eq_some hf, rfl, by rw [Instr.lifted, hf]⟩

/-- The rows of an entry's tree are 16 or 32 bits wide, as their opcodes are, which are of the entry's catalog (R64,
R110, R201). -/
theorem dispatchTable_rows : dispatchTable.all (fun e => e.tree.rows.all (fun r =>
    r.op.catalog == e.catalog && r.nbits == 8 * r.op.length && [2, 4].contains r.op.length)) = true := by
  decide +kernel

end Sys2Proof

namespace Sys2Proof.Machine

/-! ### The invariant of a decoded record -/

/-- The classes of R62 are lengths that the block can output (R33). -/
theorem legalLen_instLen (s : State) : legalLen s.instLen = true := by
  rw [instLen_eq, fetchLen]
  split_ifs <;> rfl

/-- What consistency asks of a record with an opcode that the spec gives (R40, R207, R214). -/
theorem consistent_std_iff {r : DecodedRecord} {i : Instr} (hop : r.op = .std i) :
    r.consistent = true ↔
      r.codec = i.codec ∧ r.catalog = i.catalog ∧ r.codec.keep r.toOperands = r.toOperands := by
  simp [DecodedRecord.consistent, hop, and_assoc]

/-- A consistent record with an illegal opcode is the illegal record of its length (R41). -/
theorem eq_illegalRecord_of_consistent {r : DecodedRecord} (hr : r.consistent = true) (hop : r.op = .illegal) :
    r = illegalRecord r.len := by
  simpa only [DecodedRecord.consistent, hop, decide_eq_true_eq] using hr

/-- The illegal record is consistent (R41). -/
theorem consistent_illegalRecord (n : Nat) : (illegalRecord n).consistent = true := by
  simp [DecodedRecord.consistent]

/-- The expander gives a consistent record of what the materializer read for an opcode (R207, R208, R210). -/
theorem consistent_expand_materialized (i : Instr) (s : State) :
    (expand s.xlen (s.materialized i.catalog (.std i) i.codec)).consistent = true := by
  rcases expand_cases s.xlen (s.materialized i.catalog (.std i) i.codec) with
    h | ⟨-, -, -, -, -, -, -, h⟩ | ⟨i', t, hop, -, ht, -, h⟩ <;> rw [h]
  · exact (consistent_std_iff rfl).mpr ⟨rfl, rfl, keep_materialize _ _ _⟩
  · exact consistent_illegalRecord _
  · cases hop
    obtain ⟨hcat, -, hcodec⟩ := target_coherent ht
    exact (consistent_std_iff rfl).mpr ⟨rfl, hcat.symm, keep_materialize_compressed hcodec _ _⟩

/-- The lifter keeps a record consistent: a rule renames within the base catalog and within a codec (R211). -/
theorem consistent_lift {r : DecodedRecord} (hr : r.consistent = true) : (lift r).consistent = true := by
  rcases lift_cases r with h | ⟨i, p, hcat, hop, hf, h⟩ <;> rw [h]
  · exact hr
  · obtain ⟨hcodec, -, hkeep⟩ := (consistent_std_iff hop).mp hr
    obtain ⟨-, -, hbase, -, hsame, -⟩ := pseudo_coherent (List.mem_of_find?_eq_some hf)
    refine (consistent_std_iff rfl).mpr ⟨rfl, hcat.trans hbase.symm, ?_⟩
    rw [hsame, ← hcodec]
    exact hkeep

/-- The record that a decode drives is consistent, whatever the decoder found. -/
theorem consistent_decodedRecord (d : Decoded) (s : State) : (decodedRecord d s).consistent = true := by
  cases d with
  | instr i => exact consistent_lift (consistent_expand_materialized i s)
  | openRow v => simp [decodedRecord, DecodedRecord.consistent, keep_materialize]
  | rejected why => exact consistent_illegalRecord _

/-- The record that a decode drives carries the length of R62, whatever the decoder found (R36). -/
@[simp] theorem decodedRecord_len (d : Decoded) (s : State) : (decodedRecord d s).len = s.instLen := by
  cases d <;> simp [decodedRecord]

/-- The next state of a step is the state with the decoded record output and stepped past. -/
theorem eq_of_step {s t : State} (hs : step s = .next t) :
    t = (s.output (decodedRecord (decode s.win s.xlen s.cfg s.vendorRows) s)).advance := by
  rw [step_eq_decodedRecord, Host.Outcome.next.injEq] at hs
  exact hs.symm

/-- The record that a step outputs is consistent. -/
theorem consistent_of_step {s t : State} (hs : step s = .next t) : t.record.consistent = true := by
  rw [eq_of_step hs]
  exact consistent_decodedRecord _ s

/-! ### What the dispatcher and the decoder find -/

/-- What the dispatcher finds is a matching row of an enabled entry (R202). -/
theorem candidate_of_dispatch {s : State} {h : Hit}
    (hd : dispatch s.inst s.instLen s.xlen s.cfg s.vendorRows = some h) : s.Candidate h := by
  obtain ⟨e, he, found⟩ := List.exists_of_findSome?_eq_some hd
  obtain ⟨hg, hs⟩ := Option.ite_none_right_eq_some.mp found
  exact ⟨e, he, hg, entryHasRow_of_search he hs⟩

/-- A given row that matches is of its opcode's catalog, and its opcode is as long as the word, 2 or 4 bytes (R64,
R110). -/
theorem row_of_candidate {s : State} {c : Catalog} {r : Row} (h : s.Candidate (.row c r)) :
    c = r.op.catalog ∧ r.nbits = 8 * s.instLen ∧ r.op.length = s.instLen ∧ s.instLen ∈ [2, 4] := by
  obtain ⟨e, he, -, rfl, hr, hm⟩ := h
  have row := List.all_eq_true.mp (List.all_eq_true.mp dispatchTable_rows e he) r hr
  simp only [Bool.and_eq_true, beq_iff_eq, List.contains_iff_mem] at row
  obtain ⟨⟨hcat, hbits⟩, hlen⟩ := row
  simp only [Row.matchesWord, Bool.and_eq_true, beq_iff_eq] at hm
  obtain ⟨⟨⟨⟨-, hwidth⟩, -⟩, -⟩, -⟩ := hm
  have same : r.op.length = s.instLen := by omega
  exact ⟨hcat.symm, hwidth, same, same ▸ hlen⟩

/-- An OPEN row that matches is found in the xthead catalog, for a 32-bit word (R10, R201). -/
theorem openRow_of_candidate {s : State} {c : Catalog} {v : VendorRow} (h : s.Candidate (.openRow c v)) :
    c = .xthead ∧ s.instLen = 4 := by
  obtain ⟨e, he, -, rfl, ht, -, hm⟩ := h
  exact ⟨by rw [entry_of_openTree he ht], len_of_vendorRow_matches hm⟩

/-- The decoder names a given row that matches, takes an OPEN row that matches, or rejects (R200, R202). -/
theorem decode_cases (s : State) :
    (∃ r, s.instLen ∈ [2, 4] ∧ r.op.length = s.instLen ∧
      dispatch s.inst s.instLen s.xlen s.cfg s.vendorRows = some (.row r.op.catalog r) ∧
      decode s.win s.xlen s.cfg s.vendorRows =
        .instr (if s.instLen = 4 then r.op.lifted (materialize r.op.codec s.inst s.xlen) else r.op)) ∨
    (∃ v, s.instLen = 4 ∧ dispatch s.inst s.instLen s.xlen s.cfg s.vendorRows = some (.openRow .xthead v) ∧
      decode s.win s.xlen s.cfg s.vendorRows = .openRow v) ∨
    (∃ why, (s.instLen = 0 ∨ dispatch s.inst s.instLen s.xlen s.cfg s.vendorRows = none) ∧
      decode s.win s.xlen s.cfg s.vendorRows = .rejected why) := by
  have decode_eq : decode s.win s.xlen s.cfg s.vendorRows =
      if s.instLen = 0 then .rejected .lengthPrefix
      else match dispatch s.inst s.instLen s.xlen s.cfg s.vendorRows with
        | some (.row _ r) =>
          .instr (if r.nbits = 32 then r.op.lifted (materialize r.op.codec s.inst s.xlen) else r.op)
        | some (.openRow _ v) => .openRow v
        | none => .rejected (if s.instLen ≤ 4 then .noRow else .wideInstruction) := rfl
  by_cases hzero : s.instLen = 0
  · exact .inr (.inr ⟨_, .inl hzero, by rw [decode_eq, if_pos hzero]⟩)
  rw [if_neg hzero] at decode_eq
  rcases hd : dispatch s.inst s.instLen s.xlen s.cfg s.vendorRows with _ | ⟨c, r⟩ | ⟨c, v⟩
  · exact .inr (.inr ⟨_, .inr rfl, by rw [decode_eq, hd]⟩)
  · obtain ⟨rfl, hwidth, hlen, hmem⟩ := row_of_candidate (candidate_of_dispatch hd)
    have width_iff : r.nbits = 32 ↔ s.instLen = 4 := by omega
    exact .inl ⟨r, hmem, hlen, rfl, by rw [decode_eq, hd]; simp only [width_iff]⟩
  · obtain ⟨rfl, hlen⟩ := openRow_of_candidate (candidate_of_dispatch hd)
    exact .inr (.inl ⟨v, hlen, rfl, by rw [decode_eq, hd]⟩)

/-! ### The record of the pipeline -/

/-- The expander leaves a record with a 32-bit opcode as it is (R208). -/
theorem expand_of_length_four {r : DecodedRecord} {i : Instr} (hop : r.op = .std i) (hlen : i.length = 4) (x : Xlen) :
    expand x r = r := by
  simp [expand, hop, hlen]

/-- The lifter leaves a record as it is whose opcode has no pseudo rules (R211, R212). -/
theorem lift_of_no_list {r : DecodedRecord} (h : ∀ i, r.op = .std i → i.descriptor.pseudo = []) : lift r = r := by
  rcases lift_cases r with hlift | ⟨i, p, -, hop, hf, -⟩
  · exact hlift
  · rw [h i hop] at hf
    cases hf

/-- The lifter renames a base record by the first rule that holds (R211). -/
theorem lift_of_rule {r : DecodedRecord} {i : Instr} {p : PseudoRule} (hcat : r.catalog = .base) (hop : r.op = .std i)
    (hf : i.descriptor.pseudo.find? (PseudoRule.holds r.toOperands) = some p) :
    lift r = { r with op := .std p.op, codec := p.op.codec } := by
  simp [lift, hcat, hop, hf]

/-- The record of an opcode is also that of the name the lifter gives it (R211, R212). -/
theorem decodedRecord_lifted (i : Instr) (s : State) :
    decodedRecord (.instr (i.lifted (materialize i.codec s.inst s.xlen))) s = decodedRecord (.instr i) s := by
  rcases lifted_cases i (materialize i.codec s.inst s.xlen) with ⟨-, h⟩ | ⟨p, hp, hf, h⟩ <;> rw [h]
  obtain ⟨hbase, hlen, hpbase, hplen, hcodec, hlist⟩ := pseudo_coherent hp
  have lifted_once : lift (s.materialized i.catalog (.std i) i.codec)
      = s.materialized p.op.catalog (.std p.op) p.op.codec := by
    rw [lift_of_rule hbase rfl hf, hpbase, hcodec, hbase]
    rfl
  have lifted_twice : lift (s.materialized p.op.catalog (.std p.op) p.op.codec)
      = s.materialized p.op.catalog (.std p.op) p.op.codec :=
    lift_of_no_list fun _ hop => by cases hop; exact hlist
  rw [decodedRecord, decodedRecord, expand_of_length_four rfl hplen, expand_of_length_four rfl hlen, lifted_once,
    lifted_twice]

/-- The one function of R200 answers the length and the record of what the decoder found. -/
theorem decodeBlock_eq (s : State) : decodeBlock s.win s.xlen s.cfg s.vendorRows
    = (s.instLen, decodedRecord (decode s.win s.xlen s.cfg s.vendorRows) s) := by
  have block_eq : decodeBlock s.win s.xlen s.cfg s.vendorRows =
      if s.instLen = 0 then (0, illegalRecord 0)
      else match dispatch s.inst s.instLen s.xlen s.cfg s.vendorRows with
        | none => (s.instLen, illegalRecord s.instLen)
        | some (.openRow c v) => (s.instLen, s.materialized c (.openVendor v.id) v.codec)
        | some (.row c r) =>
          let expanded := expand s.xlen (s.materialized c (.std r.op) r.op.codec)
          if expanded.op = .illegal then (s.instLen, expanded) else (s.instLen, lift expanded) := rfl
  rcases decode_cases s with ⟨r, hmem, -, hd, h⟩ | ⟨v, hlen, hd, h⟩ | ⟨why, hzero | hd, h⟩ <;> rw [h]
  · have nonzero : s.instLen ≠ 0 := fun hzero => absurd (hzero ▸ hmem) (by decide)
    have named : decodedRecord (.instr (if s.instLen = 4 then r.op.lifted (materialize r.op.codec s.inst s.xlen)
        else r.op)) s = decodedRecord (.instr r.op) s := by
      split_ifs
      · exact decodedRecord_lifted r.op s
      · rfl
    rw [block_eq, if_neg nonzero, hd, named, decodedRecord]
    dsimp only
    split_ifs with hop
    · rw [lift_of_no_list fun _ hstd => nomatch hop.symm.trans hstd]
    · rfl
  · rw [block_eq, if_neg (by omega), hd, decodedRecord]
  · rw [block_eq, if_pos hzero, decodedRecord, hzero]
  · rw [block_eq, hd, decodedRecord]
    split_ifs with hzero
    · rw [hzero]
    · rfl

/-! ### What a decode reads of the state -/

/-- Beyond what the decoder found, the record depends on the word, its length and XLEN alone (R46). -/
theorem decodedRecord_congr (d : Decoded) {s s' : State} (hlen : s'.instLen = s.instLen) (hinst : s'.inst = s.inst)
    (hx : s'.xlen = s.xlen) : decodedRecord d s' = decodedRecord d s := by
  cases d <;> simp only [decodedRecord, State.materialized, hlen, hinst, hx]

/-- The decoder depends on the window through the word and its length alone (R200). -/
theorem decode_congr {s s' : State} (hlen : s'.instLen = s.instLen) (hinst : s'.inst = s.inst) (x : Xlen) (cfg : Cfg)
    (vr : List VendorRow) : decode s'.win x cfg vr = decode s.win x cfg vr := by
  rw [State.inst, State.inst, hlen] at hinst
  simp only [State.instLen] at hlen hinst
  simp only [decode, hlen, hinst]

/-- A word of a length that no tree holds is rejected (R64, R205). -/
theorem decode_rejected_of_instLen {s : State} (h : s.instLen ∉ [2, 4]) :
    ∃ why, decode s.win s.xlen s.cfg s.vendorRows = .rejected why := by
  rcases decode_cases s with ⟨-, hmem, -⟩ | ⟨-, hlen, -⟩ | ⟨why, -, hd⟩
  · exact absurd hmem h
  · exact absurd (by simp [hlen]) h
  · exact ⟨why, hd⟩

/-- The instruction word is made of the units within its length (R64). -/
theorem inst_congr {s s' : State} (hmem : s.instLen ∈ [2, 4]) (h0 : s'.unitAt 0 = s.unitAt 0)
    (h1 : s.instLen = 4 → s'.unitAt 1 = s.unitAt 1) : s'.inst = s.inst := by
  have hlen : s'.instLen = s.instLen := by rw [instLen_eq, instLen_eq, h0]
  rw [List.mem_pair] at hmem
  rcases hmem with h | h
  · rw [inst_of_len_two h, inst_of_len_two (hlen.trans h), h0]
  · rw [inst_of_len_four h, inst_of_len_four (hlen.trans h), h0, h1 h]

/-- States that agree on the units within the length, on XLEN, on cfg and on the OPEN rows decode to one record (R30,
R46). -/
theorem decodedRecord_eq_of_units {s s' : State} (hx : s'.xlen = s.xlen) (hcfg : s'.cfg = s.cfg)
    (hvr : s'.vendorRows = s.vendorRows) (h0 : s'.unitAt 0 = s.unitAt 0)
    (h1 : s.instLen = 4 → s'.unitAt 1 = s.unitAt 1) :
    decodedRecord (decode s'.win s'.xlen s'.cfg s'.vendorRows) s'
      = decodedRecord (decode s.win s.xlen s.cfg s.vendorRows) s := by
  have hlen : s'.instLen = s.instLen := by rw [instLen_eq, instLen_eq, h0]
  by_cases hmem : s.instLen ∈ [2, 4]
  · have hinst := inst_congr hmem h0 h1
    rw [hx, hcfg, hvr, decode_congr hlen hinst, decodedRecord_congr _ hlen hinst hx]
  · obtain ⟨why, hd⟩ := decode_rejected_of_instLen hmem
    obtain ⟨why', hd'⟩ := decode_rejected_of_instLen (hlen ▸ hmem)
    rw [hd, hd', decodedRecord, decodedRecord, hlen]

/-- A step does not read the outputs of the decode before it (R49). -/
theorem step_with_outputs (s : State) (n : Nat) (r : DecodedRecord) :
    step { s with len := n, record := r } = step s := by
  rw [step_eq_decodedRecord, step_eq_decodedRecord, decodedRecord_congr (s := s) _ rfl rfl rfl]
  rfl

/-! ### The statements -/

/-- Settles O26: the length is a class of R62, the record carries it, and materializer, expander and lifter each give a
consistent record. -/
theorem stepKeepsConsistency : Obligations.StepKeepsConsistency := by
  intro s t _ hs
  have consistent := consistent_of_step hs
  have lengths : t.len = s.instLen ∧ t.record.len = s.instLen := by simp [eq_of_step hs]
  obtain ⟨hlen, hrecord⟩ := lengths
  rw [State.Inv, consistent, hrecord, hlen, beq_self_eq_true, legalLen_instLen]
  rfl

/-- Settles O5: the decoder reads the units within the length, and no tree holds a word of another length than 2
and 4. -/
theorem laterUnitsDoNotMatter : Obligations.LaterUnitsDoNotMatter := by
  intro s s' t hx hcfg hvr h0 h1 hs
  have same := decodedRecord_eq_of_units hx hcfg hvr h0 h1
  refine ⟨_, step_eq_decodedRecord s', ?_⟩
  rw [eq_of_step hs, same]
  exact ⟨rfl, rfl⟩

/-- Settles O8: every output record is consistent, and so an illegal one is the illegal record. -/
theorem illegalCarriesNoOperands : Obligations.IllegalCarriesNoOperands := by
  intro s t hs hop
  have defaults := eq_illegalRecord_of_consistent (consistent_of_step hs) hop
  rw [defaults]
  exact ⟨rfl, rfl, rfl, rfl⟩

/-- Settles O32: the caller's advance is by the length of the record just output. -/
theorem stepMovesByLength : Obligations.StepMovesByLength := by
  intro s t hs
  rw [eq_of_step hs]
  exact ⟨rfl, rfl, rfl, rfl, rfl⟩

/-- Settles O34: a step does not read the outputs, and the record it gives is the one that R200 makes from the
defaults. -/
theorem outputsForgetTheLastDecode : Obligations.OutputsForgetTheLastDecode := by
  intro s t n r hs
  refine ⟨(step_with_outputs s n r).trans hs, ?_⟩
  rw [eq_of_step hs, decodeBlock_eq]
  rfl

end Sys2Proof.Machine
end

section
/-! Rules about the length and the word of the caller's window, and the statements of 20_memory.md settled with them. -/

namespace Sys2Proof

/-! ### Length classes and units -/

/-- The length classes of R62, in arithmetic on the first unit. -/
theorem fetchLen_eq_arith (u : CodeUnit) : fetchLen u =
    if u.toNat % 4 ≠ 3 then 2 else if u.toNat / 4 % 8 ≠ 7 then 4 else if u.toNat % 64 = 31 then 6
      else if u.toNat % 128 = 63 then 8 else 0 := by
  simp only [fetchLen, ne_eq, ← BitVec.toNat_inj, BitVec.extractLsb'_toNat, Nat.shiftRight_eq_div_pow, pow_zero,
    Nat.div_one]
  rfl

/-- A length of 0 is the mark of seven ones (R62, R63). -/
theorem fetchLen_eq_zero_iff (u : CodeUnit) : fetchLen u = 0 ↔ u.extractLsb' 0 7 = 0b1111111#7 := by
  have mark : u.extractLsb' 0 7 = 0b1111111#7 ↔ u.toNat % 128 = 127 := by
    rw [← BitVec.toNat_inj, BitVec.extractLsb'_toNat]
    rfl
  rw [fetchLen_eq_arith, mark]
  split_ifs <;> simp <;> omega

/-- A unit's length is 2 by its two low bits alone (R62). -/
theorem fetchLen_eq_two_iff (u : CodeUnit) : fetchLen u = 2 ↔ u.extractLsb' 0 2 ≠ 0b11#2 := by
  simp only [fetchLen]
  split_ifs <;> simp_all

end Sys2Proof

namespace Sys2Proof.Machine

/-! ### The word of the window -/

/-- The first unit of a stream that holds one (R30). -/
theorem unitAt_zero {s : State} {u : CodeUnit} {us : List CodeUnit} (h : s.stream = u :: us) : s.unitAt 0 = u := by
  simp [State.unitAt, h]

/-- The second unit of a stream that holds two (R30). -/
theorem unitAt_one {s : State} {u v : CodeUnit} {us : List CodeUnit} (h : s.stream = u :: v :: us) :
    s.unitAt 1 = v := by
  simp [State.unitAt, h]

/-- A step outputs the length of R62. -/
theorem len_of_step {s t : State} (hs : step s = .next t) : t.len = fetchLen (s.unitAt 0) := by
  simp [eq_of_step hs, instLen_eq]

/-- A step at length 0 outputs the illegal record and moves nowhere (R64, R65; assumption log 7). -/
theorem step_of_instLen_zero {s : State} (h : s.instLen = 0) : step s = .next { s with len := 0, record := {} } := by
  obtain ⟨why, hd⟩ := decode_rejected_of_instLen (s := s) (by simp [h])
  rw [step_eq_decodedRecord, hd, decodedRecord, h]
  simp [State.advance, State.output, illegalRecord]

/-! ### The statements -/

/-- Settles O2: the length is the class of the first unit, in arithmetic. -/
theorem fetchLengthOfEveryUnit : Obligations.FetchLengthOfEveryUnit := by
  intro s
  refine ⟨_, step_eq_decodedRecord s, ?_⟩
  rw [len_of_step (step_eq_decodedRecord s)]
  exact fetchLen_eq_arith _

/-- Settles O3: the worked cases one by one, and the seven ones of length 0. -/
theorem workedLengthClasses : Obligations.WorkedLengthClasses := by
  refine ⟨by decide, by decide, by decide, by decide, by decide, by decide, by decide, by decide, by decide,
    fun high => ?_⟩
  rw [fetchLen_eq_zero_iff]
  exact BitVec.extractLsb'_append_eq_right

/-- Settles O4: a word's units are read off the stream's bytes. -/
theorem littleEndianWords : Obligations.LittleEndianWords := by
  have two_bytes (s : State) (b0 b1 : Byte) (rest : List Byte) (hs : s.stream = unitsOfBytes (b0 :: b1 :: rest))
      (hlen : s.instLen = 2) : s.inst = 0#16 ++ b1 ++ b0 := by
    rw [inst_of_len_two hlen, unitAt_zero hs, unitOfBytes, BitVec.setWidth_eq_append (by decide), BitVec.append_assoc]

  have four_bytes (s : State) (b0 b1 b2 b3 : Byte) (rest : List Byte)
      (hs : s.stream = unitsOfBytes (b0 :: b1 :: b2 :: b3 :: rest)) (hlen : s.instLen = 4) :
      s.inst = b3 ++ b2 ++ b1 ++ b0 := by
    rw [inst_of_len_four hlen, unitAt_zero hs, unitAt_one hs, unitOfBytes, unitOfBytes, BitVec.append_assoc']
    rfl
  refine ⟨fun _ _ => rfl, fun s k hk => ?_, two_bytes, four_bytes, fun s hs => ?_, fun s hs => ?_⟩
  · interval_cases k
    all_goals
      simp (disch := decide) only [Window.bits, BitVec.extractLsb'_append_eq_of_le,
        BitVec.extractLsb'_append_eq_of_add_le]
      exact BitVec.extractLsb'_eq_self
  · rw [four_bytes s 0x13 0 0 0 [] hs (by rw [instLen_eq, unitAt_zero hs]; decide)]
    decide
  · rw [two_bytes s 0x82 0x80 [] hs (by rw [instLen_eq, unitAt_zero hs]; decide)]
    decide

/-- Settles O33: a step at length 0 moves nowhere, and it does not read the outputs it leaves. -/
theorem lengthZeroStops : Obligations.LengthZeroStops := by
  intro s hu
  have stays := step_of_instLen_zero ((instLen_eq s).trans ((fetchLen_eq_zero_iff _).mpr hu))
  exact ⟨stays, (step_with_outputs s 0 {}).trans stays⟩

end Sys2Proof.Machine
end

section
/-! Rules about the fields of a word and about the codecs: what the encoder packs, a codec reads back, and of the word
it reads the bits of its fields alone (30_encoding.md R101 to R107, R300 to R374). -/

namespace Sys2Proof

/-! ### Slices of a word -/

/-- Two adjacent slices are one. -/
theorem extract_append_extract {k : Nat} (v : BitVec k) {s n t m : Nat} (h : t = s + n) :
    v.extractLsb' t m ++ v.extractLsb' s n = v.extractLsb' s (m + n) := by
  rw [BitVec.extractLsb'_append_extractLsb'_eq_extractLsb' h]

/-- A slice of a slice. -/
theorem extract_extract {k : Nat} (v : BitVec k) {s n t m : Nat} (h : s + n ≤ m) :
    (v.extractLsb' t m).extractLsb' s n = v.extractLsb' (t + s) n := by
  ext i hi
  rw [BitVec.getElem_extractLsb', BitVec.getElem_extractLsb', BitVec.getLsbD_extractLsb', decide_eq_true (by omega),
    Bool.true_and, Nat.add_assoc]

/-- A narrower value is the low slice. -/
theorem setWidth_eq_slice {k : Nat} (v : BitVec k) (n : Nat) : v.setWidth n = v.extractLsb' 0 n := by
  ext i hi
  rw [BitVec.getElem_setWidth, BitVec.getElem_extractLsb', Nat.zero_add]

/-- A signed immediate that fits is the sign-extension of its low slice. -/
theorem fitsSigned_iff {n : Nat} {i : Imm} : fitsSigned n i = true ↔ sextImm (i.extractLsb' 0 n) = i := by
  rw [fitsSigned, sextImm, beq_iff_eq, setWidth_eq_slice]

/-- An unsigned immediate that fits is the zero-extension of its low slice. -/
theorem fitsUnsigned_iff {n : Nat} {i : Imm} : fitsUnsigned n i = true ↔ zextImm (i.extractLsb' 0 n) = i := by
  rw [fitsUnsigned, zextImm, beq_iff_eq, setWidth_eq_slice i n]

/-- The zeros below an aligned immediate are its low slice. -/
theorem aligned_iff {k : Nat} {i : Imm} : aligned k i = true ↔ 0#k = i.extractLsb' 0 k := by
  rw [aligned, beq_iff_eq, setWidth_eq_slice]
  exact eq_comm

/-- A 32-bit value is its own sign-extension. -/
theorem sextImm_self (v : Imm) : sextImm v = v := BitVec.signExtend_eq v

/-- A value below `2 ^ n` is the zero-extension of its low slice. -/
theorem zextImm_slice_of_lt {n : Nat} {i : Imm} (h : i.toNat < 2 ^ n) : zextImm (i.extractLsb' 0 n) = i := by
  rw [← BitVec.toNat_inj, zextImm, BitVec.toNat_setWidth, BitVec.extractLsb'_toNat, Nat.shiftRight_zero,
    Nat.mod_eq_of_lt h, Nat.mod_eq_of_lt i.isLt]

/-- A primed register is named by its three low bits (R139). -/
theorem primed_slice {r : RegIdx} (h : isPrimed r = true) : primed (r.extractLsb' 0 3) = r := by
  revert r
  decide

/-- An `sreg` register is named by its three low bits (R140). -/
theorem sreg_slice {r : RegIdx} (h : isSreg r = true) : sreg (r.extractLsb' 0 3) = r := by
  revert r
  decide

/-- The ten bits of `vsetivli`'s type immediate (R325). -/
theorem vzimm_slice {v : BitVec 11} (h : zextImm ((v.setWidth 32).extractLsb' 0 10) = v.setWidth 32) :
    (v.extractLsb' 0 10).setWidth 11 = v := by
  rw [zextImm, BitVec.extractLsb'_setWidth_of_le (by decide)] at h
  have narrowed := congrArg (BitVec.setWidth 11) h
  rwa [BitVec.setWidth_setWidth_of_le _ (by decide), BitVec.setWidth_setWidth_of_le _ (by decide),
    BitVec.setWidth_eq] at narrowed

/-- The encoder's shift amount of `i_sh` (R304). -/
theorem shiftAmount_pack {x : Xlen} {o : Operands} (h : o.imm.toNat < x.bits) :
    shiftAmount (pack .i_sh x o) x = o.imm := by
  have low {n : Nat} (hn : n ≤ 7) : (pack .i_sh x o).extractLsb' 20 n = o.imm.extractLsb' 0 n := by
    have seven : (pack .i_sh x o).extractLsb' 20 7 = o.imm.extractLsb' 0 7 := by
      simp (disch := decide) only [pack, slice, BitVec.extractLsb, BitVec.extractLsb'_append_eq_of_le,
        BitVec.extractLsb'_append_eq_of_add_le, extract_extract]
    rw [← Nat.add_zero 20, ← extract_extract _ (by omega : 0 + n ≤ 7), seven, extract_extract _ (by omega)]
  cases x
  case x32 => exact (congrArg zextImm (low (n := 5) (by decide))).trans (zextImm_slice_of_lt h)
  case x64 => exact (congrArg zextImm (low (n := 6) (by decide))).trans (zextImm_slice_of_lt h)
  case x128 => exact (congrArg zextImm (low (n := 7) (by decide))).trans (zextImm_slice_of_lt h)

/-- The encoder's six bits of a 16-bit shift amount (R345, R346). -/
theorem shift_bits_pack {c : Codec} (hc : c ∈ [.ci_sh, .cb_sh]) (x : Xlen) (o : Operands) :
    bits (pack c x o) 12 12 = slice o.imm 5 5 ∧ bits (pack c x o) 6 2 = slice o.imm 4 0 := by
  rw [List.mem_pair] at hc
  rcases hc with rfl | rfl <;> constructor <;>
    simp (disch := decide) only [pack, bits, slice, BitVec.extractLsb, BitVec.extractLsb'_setWidth_of_le,
      BitVec.extractLsb'_append_eq_of_le, BitVec.extractLsb'_append_eq_of_add_le, extract_extract]

/-- The encoder's left-shift amount, of which 0 means 64 at XLEN 128 (R137). -/
theorem shamtL_pack {x : Xlen} {o : Operands} (h : isShamtL x o.imm = true) :
    shamtL (pack .ci_sh x o) x = o.imm := by
  have small : o.imm.toNat < 65 := by cases x <;> simp [isShamtL] at h <;> omega
  have every : ∀ n < 65, isShamtL x (BitVec.ofNat 32 n) = true →
      shamtL (pack .ci_sh x { imm := BitVec.ofNat 32 n }) x = BitVec.ofNat 32 n := by
    cases x <;> decide
  have imm_alone : shamtL (pack .ci_sh x o) x = shamtL (pack .ci_sh x { imm := o.imm }) x := by
    simp only [shamtL, shift_bits_pack (c := .ci_sh) (by decide)]
  simpa [imm_alone] using every o.imm.toNat small (by simpa using h)

/-- The encoder's right-shift amount; at XLEN 128 bit 5 stands for bit 6 too, and then 0 means 64 (R138). -/
theorem shamtR_pack {x : Xlen} {o : Operands} (h : isShamtR x o.imm = true) :
    shamtR (pack .cb_sh x o) x = o.imm := by
  have small : o.imm.toNat < 128 := by cases x <;> simp [isShamtR] at h <;> omega
  have every : ∀ n < 128, isShamtR x (BitVec.ofNat 32 n) = true →
      shamtR (pack .cb_sh x { imm := BitVec.ofNat 32 n }) x = BitVec.ofNat 32 n := by
    cases x <;> decide
  have imm_alone : shamtR (pack .cb_sh x o) x = shamtR (pack .cb_sh x { imm := o.imm }) x := by
    simp only [shamtR, shift_bits_pack (c := .cb_sh) (by decide)]
  simpa [imm_alone] using every o.imm.toNat small (by simpa using h)

/-- A codec reads back what the encoder writes (R101 to R107): each field is cut out of the word, and the pieces of an
immediate join to the bits that its range leaves. -/
theorem materialize_pack {c : Codec} {x : Xlen} {o : Operands} (hk : c.keep o = o) (ha : c.admits x o = true) :
    materialize c (pack c x o) x = o := by
  rw [← hk]
  obtain ⟨rd, rs1, rs2, rs3, imm, imm1, rm, pred, succ, aq, rl, vm, vzimm, csr, rlist, bs, rnum⟩ := o
  clear hk
  cases c
  case none | ci_none => rfl
  all_goals
    simp only [Codec.admits, Bool.and_eq_true, beq_iff_eq, decide_eq_true_eq, fitsSigned_iff, fitsUnsigned_iff,
      aligned_iff, and_assoc] at ha
    simp only [pack, materialize, Codec.keep, bits, slice, BitVec.extractLsb, Operands.mk.injEq, and_true, true_and]
    simp (disch := decide) only [BitVec.extractLsb'_append_eq_of_le, BitVec.extractLsb'_append_eq_of_add_le,
      extract_extract, BitVec.extractLsb'_setWidth_of_le]
    try simp (disch := decide) only [extract_append_extract, ha]
    try simp (disch := simp only [ha]) only [primed_slice, sreg_slice, BitVec.extractLsb'_eq_self, sextImm_self,
      true_and, and_true, and_self, Nat.reduceSub, Nat.reduceAdd]
  case i_sh => exact shiftAmount_pack (o := { rd, rs1, imm }) ha
  case vsetivli => exact vzimm_slice ha.2
  case ci_sh =>
    obtain ⟨amount, -⟩ := ha
    exact shamtL_pack (o := { rd, imm }) amount
  case cb_sh =>
    obtain ⟨-, amount, -⟩ := ha
    exact shamtR_pack (o := { rd, imm }) amount
  case zcmp_push => rw [← beq_iff_eq.mp ha, neg_neg]
  case zcmp_pop => exact (beq_iff_eq.mp ha).symm


/-! ### The bits that a codec reads -/

/-- Operand fields of ones. -/
def Operands.ones : Operands where
  rd := .allOnes 5
  rs1 := .allOnes 5
  rs2 := .allOnes 5
  rs3 := .allOnes 5
  imm := .allOnes 32
  imm1 := .allOnes 32
  rm := .allOnes 3
  pred := .allOnes 4
  succ := .allOnes 4
  aq := .allOnes 1
  rl := .allOnes 1
  vm := .allOnes 1
  vzimm := .allOnes 11
  csr := .allOnes 12
  rlist := .allOnes 4
  bs := .allOnes 2
  rnum := .allOnes 4

/-- The bits of the word that the codec's extractors read: where the encoder puts operand fields of ones, but for the
shift amount, which is as wide as XLEN makes it (R304), and the stack adjustment, which is computed (R141). -/
def Codec.reads (c : Codec) (x : Xlen) : Inst :=
  match c, x with
  | .i_sh, .x32 => 0x01ff8f80
  | .i_sh, .x64 => 0x03ff8f80
  | .zcmp_push, _ | .zcmp_pop, _ => 0x000000fc
  | c, x => pack c x .ones

/-- A field that lies within a mask is read alike under the mask. -/
theorem bits_and_of_covers {m : Inst} {hi lo : Nat} (h : bits m hi lo = .allOnes _) (w : Inst) :
    bits (w &&& m) hi lo = bits w hi lo := by
  rw [bits, BitVec.extractLsb_and]
  exact (congrArg _ h).trans BitVec.and_allOnes

/-- A codec reads nothing of the word outside these bits. -/
theorem materialize_and_reads (c : Codec) (w : Inst) (x : Xlen) :
    materialize c (w &&& c.reads x) x = materialize c w x := by
  cases c
  case none | ci_none => rfl
  case i_sh =>
    cases x <;>
      simp (disch := decide) only [materialize, shiftAmount, Codec.reads, pack, Operands.ones, bits_and_of_covers]
  all_goals
    simp (disch := decide) only [materialize, shamtL, shamtR, Codec.reads, pack, Operands.ones, bits_and_of_covers]

/-- A word under a mask, half by half. -/
theorem append_and_append_eq {n k : Nat} {a m c : BitVec n} {b l d : BitVec k} (ha : a &&& m = c) (hb : b &&& l = d) :
    (a ++ b) &&& (m ++ l) = c ++ d := by
  rw [BitVec.and_append, ha, hb]

/-- A slice lies within the slice of ones. -/
theorem slice_and_slice_allOnes {n : Nat} (v : BitVec n) (hi lo : Nat) :
    slice v hi lo &&& slice (.allOnes n) hi lo = slice v hi lo := by
  rw [slice, slice, ← BitVec.extractLsb_and, BitVec.and_allOnes]

/-- The encoder writes no bit that it does not write for operand fields of ones. -/
theorem pack_and_ones {c : Codec} (hc : c ∉ [.zcmp_push, .zcmp_pop]) (x : Xlen) (o : Operands) :
    pack c x o &&& pack c x .ones = pack c x o := by
  cases c
  case zcmp_push | zcmp_pop => exact absurd (by decide) hc
  all_goals
    simp only [pack, ← BitVec.setWidth_and]
    try apply congrArg
    repeat' apply append_and_append_eq
    all_goals simp only [Operands.ones, slice_and_slice_allOnes, BitVec.and_allOnes, BitVec.and_self]

/-- A value below `2 ^ k` lies within the `k` low bits. -/
theorem and_low_ones_of_lt {n k : Nat} (hk : k ≤ n) {v : BitVec n} (h : v.toNat < 2 ^ k) :
    v &&& BitVec.ofNat n (2 ^ k - 1) = v := by
  have fits : 2 ^ k - 1 < 2 ^ n := by
    have := Nat.two_pow_pos k
    have := Nat.pow_le_pow_right (n := 2) (by decide) hk
    omega
  refine BitVec.eq_of_toNat_eq ?_
  rw [BitVec.toNat_and, BitVec.toNat_ofNat, Nat.mod_eq_of_lt fits, Nat.and_two_pow_sub_one_eq_mod, Nat.mod_eq_of_lt h]

/-- The low slice of an immediate below `2 ^ k` lies within the `k` low bits. -/
theorem slice_and_low_ones_of_lt {i : Imm} {hi k : Nat} (hk : k ≤ hi - 0 + 1) (h : i.toNat < 2 ^ k) :
    slice i hi 0 &&& BitVec.ofNat _ (2 ^ k - 1) = slice i hi 0 := by
  refine and_low_ones_of_lt hk ?_
  rw [slice, BitVec.extractLsb_toNat, Nat.shiftRight_zero]
  exact lt_of_le_of_lt (Nat.mod_le _ _) h

/-- The encoder's fields lie within the bits that the codec reads. -/
theorem pack_and_reads {c : Codec} {x : Xlen} {o : Operands} (ha : c.admits x o = true) :
    pack c x o &&& c.reads x = pack c x o := by
  cases c
  case zcmp_push | zcmp_pop =>
    have fields : (0xfc : Inst) =
        (0#8 ++ BitVec.allOnes 4 ++ BitVec.allOnes 2 ++ 0#2 : BitVec 16).setWidth 32 := by decide
    rw [Codec.reads, fields, pack, ← BitVec.setWidth_and]
    apply congrArg
    repeat' apply append_and_append_eq
    all_goals simp only [BitVec.and_allOnes, BitVec.and_self]
  case i_sh =>
    have amount : o.imm.toNat < x.bits := of_decide_eq_true ha
    have fields (m : BitVec 7) (hm : slice o.imm 6 0 &&& m = slice o.imm 6 0) : pack .i_sh x o &&&
        (0#5 ++ m ++ BitVec.allOnes 5 ++ 0#3 ++ BitVec.allOnes 5 ++ 0#7) = pack .i_sh x o := by
      repeat' apply append_and_append_eq
      all_goals simp only [hm, BitVec.and_allOnes, BitVec.and_self]
    cases x
    case x32 => exact fields 0x1f#7 (slice_and_low_ones_of_lt (k := 5) (by decide) amount)
    case x64 => exact fields 0x3f#7 (slice_and_low_ones_of_lt (k := 6) (by decide) amount)
    case x128 => exact pack_and_ones (by decide) _ o
  all_goals exact pack_and_ones (by decide) x o

end Sys2Proof
end

section
/-! Rules about the rows: what their exclusions carve out, that no two overlap, which bits they fix, and the word that a
row and operand fields make (30_encoding.md R110 to R121; 40_pipeline.md R203, R204). -/

namespace Sys2Proof

/-! ### The words that a row's exclusions carve out -/

/-- The exclusion fixes every bit of the field. -/
def Excl.covers (e : Excl) (hi lo : Nat) : Bool := bits e.mask hi lo == .allOnes _

/-- The exclusion fixes the field at the value. -/
def Excl.fixes (e : Excl) (hi lo : Nat) (v : BitVec (hi - lo + 1)) : Bool := e.covers hi lo && bits e.value hi lo == v

/-- What an exclusion of the opcode's row fixes (R115, R116, R120). -/
def Instr.carves (i : Instr) (e : Excl) : Bool :=
  match i with
  | .pack => e.xlens == x32 && e.fixes 24 20 0
  | .packw => e.fixes 24 20 0
  | .aes64ks1i => e.covers 23 20 && decide (10 < (bits e.value 23 20).toNat)
  | .cAddi => e.fixes 12 12 0 && e.fixes 11 7 0 && e.fixes 6 2 0
  | .cAddiw | .cLqsp | .cLwsp | .cLdsp | .cJr | .cJalr => e.fixes 11 7 0
  | .cLui => e.fixes 11 7 2
  | .cSrli | .cSrai | .cSlli => e.xlens == x32 && e.fixes 12 12 1
  | .cMv | .cAdd => e.fixes 6 2 0
  | .cFsdsp =>
    e.flag == some .zcmp && e.fixes 12 11 0b11 && e.fixes 8 8 0
      || e.flag == some .zcmp && e.fixes 12 10 0b011 && e.fixes 5 5 1
      || e.flag == some .zcmt && e.fixes 12 10 0
  | .cSqsp =>
    e.flag == some .zcmp && e.fixes 12 11 0b11 && e.fixes 8 8 0
      || e.flag == some .zcmp && e.fixes 12 11 0b01 && e.fixes 10 10 1 && e.fixes 5 5 1
      || e.flag == some .zcmt && e.fixes 12 11 0 && e.fixes 10 10 0
  | .cmPush | .cmPop | .cmPopretz | .cmPopret => e.covers 7 4 && decide ((bits e.value 7 4).toNat < 4)
  | .cmMvsa01 => e.covers 9 7 && e.covers 4 2 && bits e.value 9 7 == bits e.value 4 2
  | .cmJalt => e.fixes 9 7 0
  | _ => false

/-- The exclusions of the given rows are these. -/
theorem allRows_carves : allRows.all (fun r => r.excl.all r.op.carves) = true := by decide +kernel

/-- A word is in an active exclusion: XLEN and the flag make it active, and the word has its pattern (R115). -/
theorem Excl.hits_iff {e : Excl} {w : Inst} {x : Xlen} {cfg : Cfg} :
    e.hits w x cfg = true ↔ x ∈ e.xlens ∧ flagHolds cfg e.flag = true ∧ w &&& e.mask = e.value := by
  simp only [Excl.hits, Bool.and_eq_true, List.contains_iff_mem, beq_iff_eq, and_assoc]

/-- A word in an exclusion has the exclusion's fields. -/
theorem bits_of_hits {e : Excl} {w : Inst} {x : Xlen} {cfg : Cfg} (h : e.hits w x cfg = true) {hi lo : Nat}
    (hc : e.covers hi lo = true) : bits w hi lo = bits e.value hi lo := by
  obtain ⟨-, -, inside⟩ := Excl.hits_iff.mp h
  rw [← bits_and_of_covers (beq_iff_eq.mp hc), inside]

/-- A word in an exclusion has the value that the exclusion fixes a field at. -/
theorem bits_of_fixes {e : Excl} {w : Inst} {x : Xlen} {cfg : Cfg} (h : e.hits w x cfg = true) {hi lo : Nat}
    {v : BitVec (hi - lo + 1)} (hf : e.fixes hi lo v = true) : bits w hi lo = v := by
  rw [Excl.fixes, Bool.and_eq_true, beq_iff_eq] at hf
  obtain ⟨hcover, hvalue⟩ := hf
  rw [bits_of_hits h hcover, hvalue]

/-- Sub-fields of the stack-store immediate of eight-byte words (R351). -/
theorem css_sdsp_slices (w : Inst) (x : Xlen) :
    slice (materialize .css_sdsp w x).imm 5 4 = bits w 12 11 ∧
      slice (materialize .css_sdsp w x).imm 7 7 = bits w 8 8 ∧
      slice (materialize .css_sdsp w x).imm 5 3 = bits w 12 10 ∧
      slice (materialize .css_sdsp w x).rs2 3 3 = bits w 5 5 := by
  simp (disch := decide) only [materialize, slice, bits, zextImm, BitVec.extractLsb, BitVec.extractLsb'_setWidth_of_le,
    BitVec.extractLsb'_append_eq_of_le, BitVec.extractLsb'_append_eq_of_add_le, extract_extract, and_self]

/-- Sub-fields of the stack-store immediate of sixteen-byte words (R352). -/
theorem css_sqsp_slices (w : Inst) (x : Xlen) :
    slice (materialize .css_sqsp w x).imm 5 4 = bits w 12 11 ∧
      slice (materialize .css_sqsp w x).imm 7 7 = bits w 8 8 ∧
      slice (materialize .css_sqsp w x).imm 9 9 = bits w 10 10 ∧
      slice (materialize .css_sqsp w x).rs2 3 3 = bits w 5 5 := by
  simp (disch := decide) only [materialize, slice, bits, zextImm, BitVec.extractLsb, BitVec.extractLsb'_setWidth_of_le,
    BitVec.extractLsb'_append_eq_of_le, BitVec.extractLsb'_append_eq_of_add_le, extract_extract, and_self]

/-- A word whose bits 9 to 7 are 0 has a jump-table index below 32 (R370). -/
theorem jumpIndex_lt {w : Inst} (h : bits w 9 7 = 0) : (zextImm (bits w 9 2)).toNat < 32 := by
  have high : (bits w 9 7).toNat = 0 := by rw [h]; rfl
  rw [bits, BitVec.extractLsb_toNat, Nat.shiftRight_eq_div_pow] at high
  rw [zextImm, BitVec.toNat_setWidth, bits, BitVec.extractLsb_toNat, Nat.shiftRight_eq_div_pow]
  norm_num at high ⊢
  omega

/-- No operand fields that a row admits come from a word in one of the row's exclusions (R115, R120). -/
theorem rowAdmits_of_hits {i : Instr} {e : Excl} {w : Inst} {x : Xlen} {cfg : Cfg} (hc : i.carves e = true)
    (h : e.hits w x cfg = true) : rowAdmits x cfg i (materialize i.codec w x) = false := by
  obtain ⟨hxlen, hgate, -⟩ := Excl.hits_iff.mp h
  have field {hi lo : Nat} {v : BitVec (hi - lo + 1)} (hf : e.fixes hi lo v = true) : bits w hi lo = v :=
    bits_of_fixes h hf
  have at32 (hx : e.xlens = x32) : x = .x32 := by simpa [hx, x32] using hxlen
  have flag_on {f : Flag} (hf : e.flag = some f) : flagHolds cfg (some f) = true := hf ▸ hgate
  unfold Instr.carves at hc
  split at hc
  next => -- pack
    rw [Bool.and_eq_true, beq_iff_eq] at hc
    obtain rfl := at32 hc.1
    change (Xlen.x32 != .x32 || bits w 24 20 != 0) = false
    rw [field hc.2]
    rfl
  next => -- packw
    change (bits w 24 20 != 0) = false
    rw [field hc]
    rfl
  next => -- aes64ks1i
    rw [Bool.and_eq_true, decide_eq_true_eq] at hc
    change decide ((bits w 23 20).toNat ≤ 10) = false
    rw [bits_of_hits h hc.1]
    exact decide_eq_false (by omega)
  next => -- c.addi
    rw [Bool.and_eq_true, Bool.and_eq_true] at hc
    obtain ⟨⟨h12, hrd⟩, h62⟩ := hc
    change (bits w 11 7 != 0 || sextImm (bits w 12 12 ++ bits w 6 2) != 0) = false
    rw [field h12, field hrd, field h62]
    decide
  iterate 6 -- c.addiw, c.lqsp, c.lwsp, c.ldsp, c.jr, c.jalr
    · change (bits w 11 7 != 0) = false
      rw [field hc]
      rfl
  next => -- c.lui
    change (bits w 11 7 != 2) = false
    rw [field hc]
    rfl
  iterate 3 -- c.srli, c.srai, c.slli
    · rw [Bool.and_eq_true, beq_iff_eq] at hc
      obtain rfl := at32 hc.1
      change (Xlen.x32 != .x32 || decide ((zextImm (bits w 12 12 ++ bits w 6 2)).toNat < 32)) = false
      rw [field hc.2]
      generalize bits w 6 2 = low
      revert low
      decide
  iterate 2 -- c.mv, c.add
    · change (bits w 6 2 != 0) = false
      rw [field hc]
      rfl
  next => -- c.fsdsp
    change outsideCarveFsdsp cfg (materialize .css_sdsp w x) = false
    obtain ⟨h54, h77, h53, h33⟩ := css_sdsp_slices w x
    simp only [Bool.and_eq_true, Bool.or_eq_true, beq_iff_eq] at hc
    rw [outsideCarveFsdsp, h54, h77, h53, h33]
    rcases hc with (⟨⟨hf, ha⟩, hb⟩ | ⟨⟨hf, ha⟩, hb⟩) | ⟨hf, ha⟩
    · simp [show cfg.zcmp = true from flag_on hf, field ha, field hb]
    · simp [show cfg.zcmp = true from flag_on hf, field ha, field hb]
    · simp [show cfg.zcmt = true from flag_on hf, field ha]
  next => -- c.sqsp
    change outsideCarveSqsp cfg (materialize .css_sqsp w x) = false
    obtain ⟨h54, h77, h99, h33⟩ := css_sqsp_slices w x
    simp only [Bool.and_eq_true, Bool.or_eq_true, beq_iff_eq] at hc
    rw [outsideCarveSqsp, h54, h77, h99, h33]
    rcases hc with (⟨⟨hf, ha⟩, hb⟩ | ⟨⟨⟨hf, ha⟩, hb⟩, hd⟩) | ⟨⟨hf, ha⟩, hb⟩
    · simp [show cfg.zcmp = true from flag_on hf, field ha, field hb]
    · simp [show cfg.zcmp = true from flag_on hf, field ha, field hb, field hd]
    · simp [show cfg.zcmt = true from flag_on hf, field ha, field hb]
  iterate 4 -- cm.push, cm.pop, cm.popretz, cm.popret
    · rw [Bool.and_eq_true, decide_eq_true_eq] at hc
      change decide (4 ≤ (bits w 7 4).toNat) = false
      rw [bits_of_hits h hc.1]
      exact decide_eq_false (by omega)
  next => -- cm.mvsa01
    simp only [Bool.and_eq_true, beq_iff_eq] at hc
    obtain ⟨⟨h97, h42⟩, same⟩ := hc
    change (sreg (bits w 9 7) != sreg (bits w 4 2)) = false
    have fields : bits w 9 7 = bits w 4 2 := (bits_of_hits h h97).trans (same.trans (bits_of_hits h h42).symm)
    rw [fields, bne_self_eq_false]
  next => -- cm.jalt
    exact decide_eq_false (Nat.not_le.mpr (jumpIndex_lt (field hc)))
  next => cases hc

/-! ### The rows do not overlap -/

/-- Two patterns fix some bit differently. -/
def patternsApart (m v m' v' : Inst) : Bool := m.toNat &&& m'.toNat &&& (v.toNat ^^^ v'.toNat) != 0

/-- No word has two patterns that are apart. -/
theorem not_both_patterns {m v m' v' w : Inst} (h : patternsApart m v m' v' = true) (hw : w &&& m = v) :
    w &&& m' ≠ v' := by
  rintro rfl
  subst hw
  have common : m &&& m' &&& ((w &&& m) ^^^ (w &&& m')) = 0#32 := by
    ext i hi
    simp only [BitVec.getElem_and, BitVec.getElem_xor, BitVec.getElem_zero]
    cases m[i] <;> cases m'[i] <;> cases w[i] <;> rfl
  have zero := congrArg BitVec.toNat common
  rw [BitVec.toNat_and, BitVec.toNat_and, BitVec.toNat_xor] at zero
  exact absurd zero (bne_iff_ne.mp h)

/-- One of the row's exclusions holds every word of the other row (R115). -/
def Row.excludes (r q : Row) : Bool :=
  r.excl.any fun e => (r.xlens.all fun x => !q.xlens.contains x || e.xlens.contains x)
    && (e.flag == none || e.flag == q.flag) && e.mask &&& (r.mask ||| q.mask) == e.mask
    && e.mask &&& (r.value ||| q.value) == e.value

/-- No word is in both rows, for its length, XLEN, a bit that both fix, or an exclusion (R204). -/
def Row.apart (r q : Row) : Bool :=
  r.nbits != q.nbits || r.xlens.all (fun x => !q.xlens.contains x) || patternsApart r.mask r.value q.mask q.value
    || r.excludes q || q.excludes r

/-- What a matching row says of the word (R203). -/
theorem Row.matchesWord_iff {r : Row} {w : Inst} {len : Nat} {x : Xlen} {cfg : Cfg} :
    r.matchesWord w len x cfg = true ↔ w &&& r.mask = r.value ∧ r.nbits = 8 * len ∧ x ∈ r.xlens ∧
      flagHolds cfg r.flag = true ∧ ∀ e ∈ r.excl, e.hits w x cfg = false := by
  have pattern : w.toNat &&& r.mask.toNat = r.value.toNat ↔ w &&& r.mask = r.value := by
    rw [← BitVec.toNat_inj, BitVec.toNat_and]
  simp only [Row.matchesWord, Bool.and_eq_true, beq_iff_eq, pattern, List.contains_iff_mem, Bool.not_eq_true',
    List.any_eq_false, Bool.not_eq_true, and_assoc]

/-- A row does not match where the other row does, if it excludes it. -/
theorem Row.not_matches_of_excludes {r q : Row} {w : Inst} {len : Nat} {x : Xlen} {cfg : Cfg} (h : r.excludes q = true)
    (hr : r.matchesWord w len x cfg = true) : ¬ q.matchesWord w len x cfg = true := by
  intro hq
  obtain ⟨hpattern, -, hx, -, hexcl⟩ := Row.matchesWord_iff.mp hr
  obtain ⟨hpattern', -, hx', hflag, -⟩ := Row.matchesWord_iff.mp hq
  obtain ⟨e, he, hcover⟩ := List.any_eq_true.mp h
  simp only [Bool.and_eq_true, Bool.or_eq_true, beq_iff_eq] at hcover
  obtain ⟨⟨⟨hxlens, hgate⟩, hmask⟩, hvalue⟩ := hcover
  have active : x ∈ e.xlens := by simpa [hx'] using List.all_eq_true.mp hxlens x hx
  have gate : flagHolds cfg e.flag = true := by
    rcases hgate with hnone | hsame
    · rw [hnone]; rfl
    · rw [hsame, hflag]
  have inside : w &&& e.mask = e.value := by
    calc w &&& e.mask
        = w &&& (e.mask &&& (r.mask ||| q.mask)) := by rw [hmask]
      _ = e.mask &&& (w &&& r.mask ||| w &&& q.mask) := by
          rw [← BitVec.and_assoc, BitVec.and_comm w, BitVec.and_assoc, BitVec.and_or_distrib_left]
      _ = e.value := by rw [hpattern, hpattern', hvalue]
  have hit := Excl.hits_iff.mpr ⟨active, gate, inside⟩
  rw [hexcl e he] at hit
  cases hit

/-- Rows that are apart do not both match. -/
theorem Row.not_both_of_apart {r q : Row} {w : Inst} {len : Nat} {x : Xlen} {cfg : Cfg} (h : r.apart q = true)
    (hr : r.matchesWord w len x cfg = true) : ¬ q.matchesWord w len x cfg = true := by
  intro hq
  obtain ⟨hpattern, hbits, hx, -, -⟩ := Row.matchesWord_iff.mp hr
  obtain ⟨hpattern', hbits', hx', -, -⟩ := Row.matchesWord_iff.mp hq
  simp only [Row.apart, Bool.or_eq_true, bne_iff_ne] at h
  rcases h with (((hwidth | hxlens) | hapart) | hexcl) | hexcl
  · exact hwidth (hbits.trans hbits'.symm)
  · have absent := List.all_eq_true.mp hxlens x hx
    rw [List.contains_iff_mem.mpr hx'] at absent
    cases absent
  · exact not_both_patterns hapart hpattern hpattern'
  · exact Row.not_matches_of_excludes hexcl hr hq
  · exact Row.not_matches_of_excludes hexcl hq hr

/-- The parts of a tree that the spec gives. -/
def Tree.parts : Tree → List Part
  | .given parts => parts
  | .vendorRows _ => []

/-- The parts of all trees that the spec gives. -/
def givenParts : List Part := dispatchTable.flatMap (fun e => e.tree.parts)

/-- The rows are those of the parts. -/
theorem allRows_eq : allRows = givenParts.flatMap Part.rows := by
  rw [allRows, givenParts, List.flatMap_assoc]
  refine congrArg (List.flatMap · dispatchTable) (funext fun e => ?_)
  cases e.tree <;> rfl

/-- The given parts fit. -/
theorem givenParts_fit {p : Part} (hp : p ∈ givenParts) : p.fits = true := by
  obtain ⟨e, he, hpe⟩ := List.mem_flatMap.mp hp
  have fit := List.all_eq_true.mp given_parts_fit e he
  rcases ht : e.tree with parts | f <;> rw [ht] at fit hpe
  · exact List.all_eq_true.mp fit p hpe
  · cases hpe

/-- A word that a row matches has the bits that the row's part fixes (R104). -/
theorem part_bits_of_matches {p : Part} (hp : p ∈ givenParts) {r : Row} (hr : r ∈ p.rows) {w : Inst} {len : Nat}
    {x : Xlen} {cfg : Cfg} (h : r.matchesWord w len x cfg = true) : w &&& p.mask = p.value := by
  have fit := List.all_eq_true.mp (givenParts_fit hp) r hr
  rw [Bool.and_eq_true, beq_iff_eq, beq_iff_eq, ← BitVec.toNat_and, ← BitVec.toNat_and, BitVec.toNat_inj,
    BitVec.toNat_inj] at fit
  obtain ⟨hmask, hvalue⟩ := fit
  rw [← hvalue, ← (Row.matchesWord_iff.mp h).1, BitVec.and_assoc, hmask]

/-- Every given row is apart from each row of a part but itself, most of them for the bits that the part fixes. -/
theorem allRows_apart : allRows.all (fun r => givenParts.all (fun p => patternsApart r.mask r.value p.mask p.value ||
    p.rows.all (fun q => r.apart q || r == q))) = true := by
  decide +kernel

/-- A word has at most one matching row (R204). -/
theorem eq_of_matches {r q : Row} (hr : r ∈ allRows) (hq : q ∈ allRows) {w : Inst} {len : Nat} {x : Xlen} {cfg : Cfg}
    (hmr : r.matchesWord w len x cfg = true) (hmq : q.matchesWord w len x cfg = true) : r = q := by
  rw [allRows_eq] at hq
  obtain ⟨p, hp, hqp⟩ := List.mem_flatMap.mp hq
  have checked := List.all_eq_true.mp (List.all_eq_true.mp allRows_apart r hr) p hp
  rw [Bool.or_eq_true] at checked
  rcases checked with hpart | hrows
  · exact absurd (part_bits_of_matches hp hqp hmq) (not_both_patterns hpart (Row.matchesWord_iff.mp hmr).1)
  · have row := List.all_eq_true.mp hrows q hqp
    rw [Bool.or_eq_true, beq_iff_eq] at row
    exact row.resolve_left fun hapart => Row.not_both_of_apart hapart hmr hmq

/-! ### The rows' own bits -/

/-- The length of a unit is read off its seven low bits. -/
theorem fetchLen_congr {u v : CodeUnit} (h : u.extractLsb' 0 7 = v.extractLsb' 0 7) : fetchLen u = fetchLen v := by
  have low {n : Nat} (s : Nat) (hn : s + n ≤ 7) : u.extractLsb' s n = v.extractLsb' s n := by
    have cut := congrArg (BitVec.extractLsb' s n) h
    rwa [extract_extract _ hn, extract_extract _ hn, Nat.zero_add] at cut
  rw [fetchLen, fetchLen, low 0 (by decide), low 2 (by decide), low 0 (by decide), h]

/-- A row fixes the bits of its words that give them their length (R62, R110). -/
theorem allRows_length : allRows.all (fun r => r.nbits == 8 * fetchLen (r.value.extractLsb' 0 16) &&
    (r.nbits == 32 && bits r.mask 6 0 == .allOnes _ || r.nbits == 16 && bits r.mask 1 0 == .allOnes _)) = true := by
  decide +kernel

/-- A word with a row's pattern has the row's length. -/
theorem fetchLen_of_pattern {r : Row} (hr : r ∈ allRows) {w : Inst} (h : w &&& r.mask = r.value) :
    r.nbits = 8 * fetchLen (w.extractLsb' 0 16) := by
  have same {hi lo : Nat} (hc : bits r.mask hi lo = .allOnes _) : bits w hi lo = bits r.value hi lo := by
    rw [← h, bits_and_of_covers hc]
  have checked := List.all_eq_true.mp allRows_length r hr
  simp only [Bool.and_eq_true, Bool.or_eq_true, beq_iff_eq] at checked
  obtain ⟨hlen, ⟨-, hcover⟩ | ⟨hwidth, hcover⟩⟩ := checked
  · rw [hlen]
    refine congrArg _ (fetchLen_congr ?_)
    rw [extract_extract _ (by decide), extract_extract _ (by decide)]
    exact (same hcover).symm
  · have short : fetchLen (r.value.extractLsb' 0 16) = 2 := by omega
    rw [fetchLen_eq_two_iff, extract_extract _ (by decide)] at short
    have short' : fetchLen (w.extractLsb' 0 16) = 2 := by
      rw [fetchLen_eq_two_iff, extract_extract _ (by decide)]
      exact fun hw => short ((same hcover).symm.trans hw)
    rw [short', hwidth]

/-! ### The fields that a row's pattern fixes -/

/-- The codecs of the vector rows whose pattern may fix vm or rs2, which the codec reads. -/
def Codec.readsVm : Codec → Bool
  | .v_r | .v_r2 | .v_i | .v_ldst_u => true
  | _ => false

/-- The bits of a vector word at vm and rs2 (R326 to R331). -/
def vmRs2Bits (vm : BitVec 1) (rs2 : RegIdx) : Inst := 0#6 ++ vm ++ rs2 ++ 0#20

/-- What the encoder writes at vm and rs2. -/
theorem pack_and_vmRs2 {c : Codec} {x : Xlen} {o : Operands} (hc : c.readsVm = true) (hk : c.keep o = o) :
    pack c x o &&& 0x03f00000 = vmRs2Bits o.vm o.rs2 := by
  have join (vm : BitVec 1) (rs2 : RegIdx) : vmRs2Bits vm rs2 = 0#6 ++ vm ++ rs2 ++ 0#5 ++ 0#3 ++ 0#5 ++ 0#7 ∧
      vmRs2Bits vm rs2 = 0#6 ++ vm ++ rs2 ++ 0#8 ++ 0#5 ++ 0#7 := by
    revert vm rs2
    decide
  have ones : (0x03f00000 : Inst) = vmRs2Bits (.allOnes 1) (.allOnes 5) := by decide
  rw [ones]
  cases c
  case v_r | v_i =>
    rw [(join _ _).1, (join _ _).1]
    repeat' apply append_and_append_eq
    all_goals simp only [BitVec.and_allOnes, BitVec.and_zero, BitVec.and_self]
  case v_r2 =>
    rw [(join _ _).2, (join _ _).2]
    repeat' apply append_and_append_eq
    all_goals simp only [BitVec.and_allOnes, BitVec.and_zero, BitVec.and_self]
  case v_ldst_u =>
    have unread : o.rs2 = 0#5 := (congrArg Operands.rs2 hk).symm
    rw [(join _ _).1, (join _ _).1, unread]
    repeat' apply append_and_append_eq
    all_goals simp only [BitVec.and_allOnes, BitVec.and_zero, BitVec.and_self]
  all_goals cases hc

/-- What the row of an opcode with such a codec asks of the operand fields, it asks of vm and rs2. -/
theorem readsVm_and_rowAdmits (i : Instr) (x : Xlen) (cfg : Cfg) (o : Operands) :
    (i.codec.readsVm && rowAdmits x cfg i o)
      = (i.codec.readsVm && rowAdmits .x64 {} i { rs2 := o.rs2, vm := o.vm }) := by
  cases i <;> rfl

/-- Of the bits that a codec reads, a row's pattern fixes none, or those of vm and rs2 at the values that the row
admits, or three of an index below 32. -/
theorem allRows_overlap : allRows.all (fun r => r.xlens.all (fun x =>
    r.mask &&& r.op.codec.reads x == 0
    || r.op.codec.readsVm && r.mask &&& r.op.codec.reads x &&& 0x03f00000 == r.mask &&& r.op.codec.reads x
      && decide (∀ (vm : BitVec 1) (rs2 : RegIdx), rowAdmits .x64 {} r.op { rs2, vm } = true →
        vmRs2Bits vm rs2 &&& (r.mask &&& r.op.codec.reads x) = r.value &&& r.op.codec.reads x)
    || r.op == .cmJt && r.mask &&& r.op.codec.reads x == 0x380 && r.value &&& r.op.codec.reads x == 0)) = true := by
  decide +kernel

/-- A row's pattern is within its mask (R110). -/
theorem allRows_value : allRows.all (fun r => r.value &&& r.mask == r.value) = true := by decide +kernel

/-- The index of `cm.jt` has no bit in the three that its row fixes (R370). -/
theorem pack_jt_and {x : Xlen} {o : Operands} (h : o.imm.toNat < 32) : pack .zcmt_jt x o &&& 0x380 = 0 := by
  have high : slice o.imm 7 0 &&& 0xe0#8 = 0#8 := by
    rw [← slice_and_low_ones_of_lt (k := 5) (by decide) h]
    generalize slice o.imm 7 0 = v
    revert v
    decide
  have fields : (0x380 : Inst) = (0#6 ++ 0xe0#8 ++ 0#2 : BitVec 16).setWidth 32 := by decide
  rw [fields, pack, ← BitVec.setWidth_and]
  exact (congrArg (BitVec.setWidth 32)
    (append_and_append_eq (append_and_append_eq BitVec.and_self high) BitVec.and_self)).trans (by decide)

/-- Where a codec reads bits that its row fixes, the encoder writes them as the row has them (R110, R115). -/
theorem pack_and_overlap {r : Row} (hr : r ∈ allRows) {x : Xlen} (hx : x ∈ r.xlens) {cfg : Cfg} {o : Operands}
    (hk : r.op.codec.keep o = o) (hrow : rowAdmits x cfg r.op o = true) :
    pack r.op.codec x o &&& (r.mask &&& r.op.codec.reads x) = r.value &&& r.op.codec.reads x := by
  have within : r.value &&& r.mask = r.value := beq_iff_eq.mp (List.all_eq_true.mp allRows_value r hr)
  have checked := List.all_eq_true.mp (List.all_eq_true.mp allRows_overlap r hr) x hx
  simp only [Bool.or_eq_true, Bool.and_eq_true, beq_iff_eq, decide_eq_true_eq] at checked
  rcases checked with (hnone | ⟨⟨hvm, hbits⟩, hfixed⟩) | ⟨⟨hop, hbits⟩, hzero⟩
  · rw [← within, BitVec.and_assoc, hnone]
    exact BitVec.and_zero.trans BitVec.and_zero.symm
  · have admitted := readsVm_and_rowAdmits r.op x cfg o
    rw [hvm, hrow, Bool.true_and, Bool.true_and] at admitted
    rw [← hfixed _ _ admitted.symm, ← pack_and_vmRs2 hvm hk, BitVec.and_assoc, BitVec.and_comm 0x03f00000, hbits]
  · rw [hbits, hzero]
    rw [hop] at hrow ⊢
    exact pack_jt_and (of_decide_eq_true hrow)

/-! ### The encoder's word -/

/-- A value and a part of it are the value. -/
theorem or_and_self_left {n : Nat} (v m : BitVec n) : v ||| (v &&& m) = v := by
  ext i hi
  rw [BitVec.getElem_or, BitVec.getElem_and]
  cases v[i] <;> rfl

/-- The word of a row and operand fields that the row admits. -/
theorem word_of_row {r : Row} (hr : r ∈ allRows) {x : Xlen} (hx : x ∈ r.xlens) {cfg : Cfg} {o : Operands}
    (hk : r.op.codec.keep o = o) (ha : r.op.codec.admits x o = true) (hrow : rowAdmits x cfg r.op o = true) :
    (r.value ||| pack r.op.codec x o) &&& r.mask = r.value ∧
      materialize r.op.codec (r.value ||| pack r.op.codec x o) x = o := by
  have overlap := pack_and_overlap hr hx hk hrow
  have fields := pack_and_reads ha
  have within : r.value &&& r.mask = r.value := beq_iff_eq.mp (List.all_eq_true.mp allRows_value r hr)
  constructor
  · calc (r.value ||| pack r.op.codec x o) &&& r.mask
        = r.value ||| (pack r.op.codec x o &&& r.op.codec.reads x &&& r.mask) := by
          rw [BitVec.and_or_distrib_right, within, fields]
      _ = r.value ||| (r.value &&& r.op.codec.reads x) := by
          rw [BitVec.and_assoc, BitVec.and_comm (r.op.codec.reads x), overlap]
      _ = r.value := or_and_self_left _ _
  · have read : (r.value ||| pack r.op.codec x o) &&& r.op.codec.reads x = pack r.op.codec x o := by
      rw [BitVec.and_or_distrib_right, fields, ← overlap, BitVec.or_comm, or_and_self_left]
    rw [← materialize_and_reads, read, materialize_pack hk ha]

/-- The word of a row and operand fields that the row admits matches the row (R203). -/
theorem word_of_row_matches {r : Row} (hr : r ∈ allRows) {x : Xlen} (hx : x ∈ r.xlens) {cfg : Cfg} {o : Operands}
    (hflag : flagHolds cfg r.flag = true) (hk : r.op.codec.keep o = o) (ha : r.op.codec.admits x o = true)
    (hrow : rowAdmits x cfg r.op o = true) {len : Nat} (hlen : r.nbits = 8 * len) :
    r.matchesWord (r.value ||| pack r.op.codec x o) len x cfg = true := by
  obtain ⟨pattern, fields⟩ := word_of_row hr hx hk ha hrow
  refine Row.matchesWord_iff.mpr ⟨pattern, hlen, hx, hflag, fun e he => ?_⟩
  rw [Bool.eq_false_iff]
  intro hit
  have carved := List.all_eq_true.mp (List.all_eq_true.mp allRows_carves r hr) e he
  rw [← fields, rowAdmits_of_hits carved hit] at hrow
  cases hrow

/-! ### The row of an opcode -/

/-- The guard of the tree that holds the opcode's rows (R201). -/
def Instr.treeGuard : Instr → Option Flag
  | .thAddsl => some .xtheadba
  | .thSrri | .thSrriw | .thExt | .thExtu | .thFf0 | .thFf1 | .thRev | .thRevw | .thTstnbz => some .xtheadbb
  | .thTst => some .xtheadbs
  | .thMveqz | .thMvnez => some .xtheadcondmov
  | .vtMaskc | .vtMaskcn => some .xventanacondops
  | _ => none

/-- The flag that the opcode's rows require (R116). -/
def Instr.rowFlag : Instr → Option Flag
  | .cmPush | .cmPop | .cmPopretz | .cmPopret | .cmMvsa01 | .cmMva01s => some .zcmp
  | .cmJt | .cmJalt => some .zcmt
  | _ => none

/-- All rows of an opcode have one guard and one flag. -/
theorem dispatchTable_gates : dispatchTable.all (fun e => e.tree.rows.all (fun r =>
    e.guard == r.op.treeGuard && r.flag == r.op.rowFlag)) = true := by
  decide +kernel

/-- An opcode that is present has a row that gives its encoding, in a tree that is tried (R110, R114, R116, R201). -/
theorem row_of_presentAt {x : Xlen} {cfg : Cfg} {i : Instr} (h : presentAt x cfg i = true) :
    ∃ e ∈ dispatchTable, ∃ r ∈ e.tree.rows, i.row? x = some r ∧ r.op = i.canonical ∧ x ∈ r.xlens ∧
      flagHolds cfg e.guard = true ∧ flagHolds cfg r.flag = true := by
  have gates {e : DispatchEntry} (he : e ∈ dispatchTable) {r : Row} (hr : r ∈ e.tree.rows) :
      e.guard = r.op.treeGuard ∧ r.flag = r.op.rowFlag := by
    simpa only [Bool.and_eq_true, beq_iff_eq] using
      List.all_eq_true.mp (List.all_eq_true.mp dispatchTable_gates e he) r hr
  obtain ⟨e, he, hentry⟩ := List.any_eq_true.mp h
  obtain ⟨hguard, hrows⟩ := Bool.and_eq_true_iff.mp hentry
  obtain ⟨q, hq, hpresent⟩ := List.any_eq_true.mp hrows
  simp only [Bool.and_eq_true, beq_iff_eq, List.contains_iff_mem] at hpresent
  obtain ⟨⟨hop, hx⟩, hflag⟩ := hpresent
  obtain ⟨guard_eq, flag_eq⟩ := gates he hq
  rcases hf : i.row? x with _ | r
  · exact absurd (by simp [hop, hx]) (List.find?_eq_none.mp hf q (mem_allRows he hq))
  · have found := List.find?_some hf
    simp only [Bool.and_eq_true, beq_iff_eq, List.contains_iff_mem] at found
    obtain ⟨hop', hx'⟩ := found
    obtain ⟨e', he', hr⟩ := List.mem_flatMap.mp (List.mem_of_find?_eq_some hf)
    obtain ⟨guard_eq', flag_eq'⟩ := gates he' hr
    refine ⟨e', he', r, hr, rfl, hop', hx', ?_, ?_⟩
    · rw [guard_eq', hop', ← hop, ← guard_eq, hguard]
    · rw [flag_eq', hop', ← hop, ← flag_eq, hflag]

/-- An opcode under the name that the lifter gives shares its encoding with its canonical opcode, and a 16-bit opcode is
its own (R211, R212). -/
theorem canonical_of_lifted {i : Instr} {o : Operands} (h : i.canonical.lifted o = i) :
    i.codec = i.canonical.codec ∧ i.length = i.canonical.length ∧ i.catalog = i.canonical.catalog ∧
      (i.length ≠ 4 → i.canonical = i) := by
  rcases lifted_cases i.canonical o with ⟨-, hself⟩ | ⟨p, hp, -, hname⟩
  · rw [← hself, h]
    exact ⟨rfl, rfl, rfl, fun _ => rfl⟩
  · obtain ⟨hbase, hlen, hpbase, hplen, hcodec, -⟩ := pseudo_coherent hp
    obtain rfl : p.op = i := hname.symm.trans h
    exact ⟨hcodec, hplen.trans hlen.symm, hpbase.trans hbase.symm, fun hne => absurd hplen hne⟩

/-- A 16-bit row and its codec lie within the 16 low bits (R64). -/
theorem allRows_short : allRows.all (fun r => r.nbits == 32 || r.value &&& 0xffff == r.value &&
    xAll.all (fun x => r.op.codec.reads x &&& 0xffff == r.op.codec.reads x)) = true := by
  decide +kernel

end Sys2Proof
end

section
/-! Rules about the step at a matching row and about the encoded stream, and the statements of 20_memory.md settled with
them. -/

namespace Sys2Proof.Machine

/-! ### The matching row is found -/

/-- A row has its opcode's width and its tree's catalog (R110, R201). -/
theorem row_shape {e : DispatchEntry} (he : e ∈ dispatchTable) {r : Row} (hr : r ∈ e.tree.rows) :
    r.op.catalog = e.catalog ∧ r.nbits = 8 * r.op.length ∧ r.op.length ∈ [2, 4] := by
  simpa only [Bool.and_eq_true, beq_iff_eq, List.contains_iff_mem, and_assoc] using
    List.all_eq_true.mp (List.all_eq_true.mp dispatchTable_rows e he) r hr

/-- The dispatcher finds the row of the base tree that matches, whatever OPEN rows there are (R201, R202). -/
theorem dispatch_of_matchesBase {s : State} {r : Row} (h : s.MatchesBase r) :
    dispatch s.inst s.instLen s.xlen s.cfg s.vendorRows = some (.row .base r) := by
  obtain ⟨hr, hm⟩ := h
  have found : baseTree.find? (fun r => r.matchesWord s.inst s.instLen s.xlen s.cfg) = some r := by
    rcases hf : baseTree.find? (fun r => r.matchesWord s.inst s.instLen s.xlen s.cfg) with _ | q
    · exact absurd hm (List.find?_eq_none.mp hf r hr)
    · have hq := List.mem_of_find?_eq_some hf
      have hmq := List.find?_some hf
      rw [hf, eq_of_matches (mem_allRows_of_baseTree hr) (mem_allRows_of_baseTree hq) hm hmq]
  refine dispatch_eq_of_first (k := 0) rfl rfl ?_ fun j _ hj => absurd hj (Nat.not_lt_zero j)
  rw [search_eq_find? List.mem_cons_self rfl]
  exact congrArg (Option.map (Hit.row .base)) found

/-- The dispatcher finds the matching row of an enabled tree where no OPEN row is in its way. -/
theorem dispatch_of_candidate {s : State} {c : Catalog} {r : Row} (h : s.Candidate (.row c r))
    (hvr : s.vendorRows = []) : dispatch s.inst s.instLen s.xlen s.cfg s.vendorRows = some (.row c r) := by
  obtain ⟨e, he, -, -, hr, hm⟩ := id h
  rcases hd : dispatch s.inst s.instLen s.xlen s.cfg s.vendorRows with _ | ⟨c', q⟩ | ⟨c', v⟩
  · exact absurd h (not_candidate_of_dispatch_none hd _)
  · have candidate := candidate_of_dispatch hd
    obtain ⟨e', he', -, -, hq, hmq⟩ := id candidate
    obtain rfl := eq_of_matches (mem_allRows he hr) (mem_allRows he' hq) hm hmq
    rw [(row_of_candidate h).1, (row_of_candidate candidate).1]
  · obtain ⟨-, -, -, -, -, hv, -⟩ := candidate_of_dispatch hd
    rw [hvr] at hv
    cases hv

/-- A matching row that is found for the base catalog is one of the base tree (R201). -/
theorem matchesBase_of_candidate {s : State} {r : Row} (h : s.Candidate (.row .base r)) : s.MatchesBase r := by
  obtain ⟨e, he, -, hbase, hr, hm⟩ := h
  simp only [dispatchTable, List.mem_cons, List.not_mem_nil, or_false] at he
  rcases he with rfl | rfl | rfl | rfl | rfl | rfl | rfl | rfl | rfl | rfl | rfl | rfl | rfl
  · exact ⟨hr, hm⟩
  all_goals cases hbase

/-- An opcode's row is found where it matches and its catalog's OPEN rows are none or come later (R10, R201, R202). -/
theorem dispatch_of_row {s : State} {c : Catalog} {r : Row} (h : s.Candidate (.row c r))
    (hc : c = .base ∨ s.vendorRows = []) : dispatch s.inst s.instLen s.xlen s.cfg s.vendorRows = some (.row c r) := by
  rcases hc with rfl | hvr
  · exact dispatch_of_matchesBase (matchesBase_of_candidate h)
  · exact dispatch_of_candidate h hvr

/-- Where the dispatcher finds a given row, the decoder names its opcode (R203, R211). -/
theorem decode_of_dispatch_row {s : State} {c : Catalog} {r : Row}
    (hd : dispatch s.inst s.instLen s.xlen s.cfg s.vendorRows = some (.row c r)) :
    decode s.win s.xlen s.cfg s.vendorRows =
      .instr (if r.nbits = 32 then r.op.lifted (materialize r.op.codec s.inst s.xlen) else r.op) := by
  obtain ⟨-, hwidth, -, hmem⟩ := row_of_candidate (candidate_of_dispatch hd)
  have hlen : s.instLen ≠ 0 := fun hzero => absurd (hzero ▸ hmem) (by decide)
  rw [State.inst] at hd
  simp only [decode, State.inst, State.instLen] at hd hlen ⊢
  rw [if_neg hlen, hd]

/-- The record of a 32-bit base opcode is what its codec reads, under the lifter's name (R206, R211). -/
theorem decodedRecord_of_base {s : State} {i : Instr} (hbase : i.catalog = .base) (hlen : i.length = 4) :
    decodedRecord (.instr i) s
      = s.materialized .base (.std (i.lifted (materialize i.codec s.inst s.xlen))) i.codec := by
  rw [decodedRecord, expand_of_length_four rfl hlen, hbase]
  rcases lifted_cases i (materialize i.codec s.inst s.xlen) with ⟨hf, h⟩ | ⟨p, hp, hf, h⟩ <;> rw [h]
  · simp [lift, hf]
  · obtain ⟨-, -, -, -, hcodec, -⟩ := pseudo_coherent hp
    rw [lift_of_rule rfl rfl hf, hcodec]
    rfl

/-- The step at a matching 32-bit row of the base tree. -/
theorem stepGives_of_matchesBase {s : State} {r : Row} {o : Operands} (h : s.MatchesBase r) (h32 : r.nbits = 32)
    (ho : materialize r.op.codec s.inst s.xlen = o) :
    StepGives s { o with len := 4, catalog := .base, op := .std (r.op.lifted o), codec := r.op.codec } := by
  subst ho
  have found := dispatch_of_matchesBase h
  obtain ⟨hbase, hwidth, hlen, -⟩ := row_of_candidate (candidate_of_dispatch found)
  have four : s.instLen = 4 := by omega
  have gives := stepGives_decodedRecord s
  rw [decode_of_dispatch_row found, if_pos h32, decodedRecord_lifted,
    decodedRecord_of_base hbase.symm (hlen.trans four), State.materialized, four] at gives
  exact gives

/-- The step where no enabled tree holds a matching row (R205). -/
theorem stepGives_of_no_candidate {s : State} (h : ∀ hit, ¬ s.Candidate hit) :
    StepGives s (illegalRecord s.instLen) := by
  have gives := stepGives_decodedRecord s
  rcases decode_cases s with ⟨r, -, -, hd, -⟩ | ⟨v, -, hd, -⟩ | ⟨why, -, hd⟩
  · exact absurd (candidate_of_dispatch hd) (h _)
  · exact absurd (candidate_of_dispatch hd) (h _)
  · rwa [hd] at gives

/-! ### 32-bit words -/

/-- The word of a state that presents 32 bits of a length of 4. -/
theorem inst_of_presents32 {s : State} {w : Inst} (h : s.presents32 w) (hlen : fetchLen (w.extractLsb' 0 16) = 4) :
    s.instLen = 4 ∧ s.inst = w := by
  obtain ⟨h0, h1⟩ := h
  have four : s.instLen = 4 := by rw [instLen_eq, h0, hlen]
  rw [inst_of_len_four four, h0, h1]
  exact ⟨four, extract_append_extract w rfl |>.trans BitVec.extractLsb'_eq_self⟩

/-- A word with the pattern of a 32-bit row of the base tree that holds at every XLEN and carves nothing out
matches it. -/
theorem matchesBase_of_presents32 {s : State} {r : Row} {w : Inst} (h : s.presents32 w) (hr : r ∈ baseTree)
    (hw : w &&& r.mask = r.value) (hrow : r.nbits = 32 ∧ r.xlens = xAll ∧ r.flag = none ∧ r.excl = []) :
    s.MatchesBase r ∧ s.inst = w := by
  obtain ⟨h32, hxlens, hflag, hexcl⟩ := hrow
  have len := fetchLen_of_pattern (mem_allRows_of_baseTree hr) hw
  obtain ⟨hlen, hinst⟩ := inst_of_presents32 h (by omega)
  refine ⟨⟨hr, Row.matchesWord_iff.mpr ⟨hinst ▸ hw, by rw [h32, hlen], ?_, by rw [hflag]; rfl, ?_⟩⟩, hinst⟩
  · rw [hxlens]
    cases s.xlen <;> decide
  · rw [hexcl]
    exact fun e he => nomatch he

/-! ### Words of the atomic opcodes -/

/-- A word of the opcode map AMO with funct3 010 (R1083 to R1093). -/
def amoWord (funct5 : BitVec 5) (aq rl : BitVec 1) (rs2 rs1 rd : RegIdx) : Inst :=
  funct5 ++ aq ++ rl ++ rs2 ++ rs1 ++ 0b010#3 ++ rd ++ 0b0101111#7

/-- The mask of such a word's fixed bits, with the mask `m` at rs2. -/
def amoMask (m : RegIdx) : Inst := 0b11111#5 ++ 0#1 ++ 0#1 ++ m ++ 0#5 ++ 0b111#3 ++ 0#5 ++ 0b1111111#7

/-- The fixed bits of such a word. -/
theorem amoWord_and_amoMask (funct5 : BitVec 5) (aq rl : BitVec 1) (rs2 rs1 rd m : RegIdx) :
    amoWord funct5 aq rl rs2 rs1 rd &&& amoMask m = amoWord funct5 0 0 (rs2 &&& m) 0 0 := by
  unfold amoWord amoMask
  repeat' apply append_and_append_eq
  · exact BitVec.and_allOnes
  all_goals simp

/-- The codecs of the atomic opcodes read the ordering bits and the registers (R316, R317). -/
theorem materialize_amoWord (funct5 : BitVec 5) (aq rl : BitVec 1) (rs2 rs1 rd : RegIdx) (x : Xlen) :
    materialize .r_a (amoWord funct5 aq rl rs2 rs1 rd) x = { rd, rs1, rs2, aq, rl } ∧
      materialize .r_l (amoWord funct5 aq rl rs2 rs1 rd) x = { rd, rs1, aq, rl } := by
  unfold amoWord
  constructor <;>
  · simp (disch := decide) only [materialize, bits, BitVec.extractLsb, BitVec.extractLsb'_append_eq_of_le,
      BitVec.extractLsb'_append_eq_of_add_le]
    simp only [Nat.reduceSub, Nat.reduceAdd, BitVec.extractLsb'_eq_self]

/-- Of the given rows, only that of `lr.w` holds 32-bit words with the fixed bits of `lr.w`, and it fixes the field at
rs2 (R1083, R121). -/
theorem allRows_lrW : allRows.all (fun r => r.nbits == 16 || patternsApart r.mask r.value 0xf800707f 0x1000202f ||
    r.mask == 0xf9f0707f && r.value == 0x1000202f) = true := by
  decide +kernel

/-- A word of `lr.w` with another field than 0 at rs2 matches no row (R121). -/
theorem not_matches_of_lrW {aq rl : BitVec 1} {f rs1 rd : RegIdx} (hf : f ≠ 0) {r : Row} (hr : r ∈ allRows) {x : Xlen}
    {cfg : Cfg} : ¬ r.matchesWord (amoWord 0b00010 aq rl f rs1 rd) 4 x cfg = true := by
  intro hm
  obtain ⟨hpattern, hwidth, -⟩ := Row.matchesWord_iff.mp hm
  have checked := List.all_eq_true.mp allRows_lrW r hr
  simp only [Bool.or_eq_true, Bool.and_eq_true, beq_iff_eq] at checked
  rcases checked with (h16 | hapart) | ⟨hmask, hvalue⟩
  · omega
  · refine not_both_patterns hapart hpattern ?_
    exact (amoWord_and_amoMask 0b00010 aq rl f rs1 rd 0#5).trans (by rw [BitVec.and_zero]; rfl)
  · rw [hmask, hvalue] at hpattern
    have fixed := (amoWord_and_amoMask 0b00010 aq rl f rs1 rd (.allOnes 5)).symm.trans hpattern
    have fields := (materialize_amoWord 0b00010 0 0 (f &&& .allOnes 5) 0 0 x).1
    rw [fixed, BitVec.and_allOnes] at fields
    exact hf (congrArg Operands.rs2 fields).symm

/-! ### The encoded stream -/

/-- The state presents the encoded word, of 32 bits or of 16 (R61, R64). -/
theorem presents_encode {s : State} {i : Instr} {o : Operands} {rest : List CodeUnit}
    (hs : s.stream = encode s.xlen i o ++ rest) :
    (i.length = 2 → s.presents16 ((encodeWord s.xlen i o).extractLsb' 0 16)) ∧
      (i.length ≠ 2 → s.presents32 (encodeWord s.xlen i o)) := by
  refine ⟨fun h => ?_, fun h => ?_⟩
  · rw [encode, if_pos h] at hs
    exact unitAt_zero hs
  · rw [encode, if_neg h] at hs
    exact ⟨unitAt_zero hs, unitAt_one hs⟩

/-- The word of a state that presents 16 bits of a length of 2, where the word has no other bits. -/
theorem inst_of_presents16 {s : State} {w : Inst} (h : s.presents16 (w.extractLsb' 0 16))
    (hlen : fetchLen (w.extractLsb' 0 16) = 2) (hw : w &&& 0xffff = w) : s.instLen = 2 ∧ s.inst = w := by
  have two : s.instLen = 2 := by rw [instLen_eq, h, hlen]
  have small : w.toNat < 2 ^ 16 := by
    rw [← hw, BitVec.toNat_and]
    exact Nat.lt_succ_of_le Nat.and_le_right
  exact ⟨two, (inst_of_len_two two).trans ((congrArg (BitVec.setWidth 32) h).trans (zextImm_slice_of_lt small))⟩

/-- A state whose stream begins with the encoding of a row's opcode reads the encoded word, at the row's length. -/
theorem inst_of_encode {s : State} {i : Instr} {o : Operands} {r : Row} {rest : List CodeUnit} (hr : r ∈ allRows)
    (hlen : i.length ∈ [2, 4]) (hwidth : r.nbits = 8 * i.length)
    (hword : encodeWord s.xlen i o = r.value ||| pack r.op.codec s.xlen o) (ha : r.op.codec.admits s.xlen o = true)
    (hpattern : encodeWord s.xlen i o &&& r.mask = r.value) (hs : s.stream = encode s.xlen i o ++ rest) :
    s.instLen = i.length ∧ s.inst = encodeWord s.xlen i o := by
  have start : fetchLen ((encodeWord s.xlen i o).extractLsb' 0 16) = i.length := by
    have := fetchLen_of_pattern hr hpattern
    omega
  obtain ⟨short, long⟩ := presents_encode hs
  rw [List.mem_pair] at hlen
  rcases hlen with h2 | h4
  · have checked := List.all_eq_true.mp allRows_short r hr
    simp only [Bool.or_eq_true, Bool.and_eq_true, beq_iff_eq] at checked
    obtain ⟨hvalue, hreads⟩ := checked.resolve_left (by omega)
    have reads := beq_iff_eq.mp (List.all_eq_true.mp hreads s.xlen (by cases s.xlen <;> decide))
    rw [h2] at start ⊢
    refine inst_of_presents16 (short h2) start ?_
    rw [hword, BitVec.and_or_distrib_right, hvalue, ← pack_and_reads ha, BitVec.and_assoc, reads]
  · rw [h4] at start ⊢
    exact inst_of_presents32 (long (by omega)) start

/-! ### The statements -/

/-- Settles O44: the word has the pattern of the row of fence, whose mask leaves fm, rs1 and rd out, and the codec of
fence does not read them. -/
theorem fenceIgnoresUncheckedFields : Obligations.FenceIgnoresUncheckedFields := by
  intro s fm pred succ rs1 rd h
  have pattern : (fm ++ pred ++ succ ++ rs1 ++ 0b000#3 ++ rd ++ 0b0001111#7) &&&
      (0#4 ++ 0#4 ++ 0#4 ++ 0#5 ++ 0b111#3 ++ 0#5 ++ 0b1111111#7) =
      0#4 ++ 0#4 ++ 0#4 ++ 0#5 ++ 0b000#3 ++ 0#5 ++ 0b0001111#7 := by
    repeat' apply append_and_append_eq
    all_goals simp
  obtain ⟨matched, hinst⟩ := matchesBase_of_presents32
    (r := ⟨.fence, 32, 0x0000707f#32, 0x0000000f#32, xAll, none, []⟩) h (by decide +kernel) pattern
    ⟨rfl, rfl, rfl, rfl⟩
  refine stepGives_of_matchesBase matched rfl (o := { pred, succ }) ?_
  rw [hinst]
  change materialize .r_f _ s.xlen = _
  simp (disch := decide) only [materialize, bits, BitVec.extractLsb, BitVec.extractLsb'_append_eq_of_le,
    BitVec.extractLsb'_append_eq_of_add_le]
  simp only [Nat.reduceSub, Nat.reduceAdd, BitVec.extractLsb'_eq_self]

/-- Settles O45: the word has the pattern of the row of amoadd.w, and its codec reads aq and rl. -/
theorem atomicOrderingBits : Obligations.AtomicOrderingBits := by
  intro s aq rl rs2 rs1 rd h
  have pattern := amoWord_and_amoMask 0b00000 aq rl rs2 rs1 rd 0#5
  rw [BitVec.and_zero] at pattern
  obtain ⟨matched, hinst⟩ := matchesBase_of_presents32
    (r := ⟨.amoaddW, 32, 0xf800707f#32, 0x0000202f#32, xAll, none, []⟩) h (by decide +kernel) pattern
    ⟨rfl, rfl, rfl, rfl⟩
  obtain ⟨fields, -⟩ := materialize_amoWord 0b00000 aq rl rs2 rs1 rd s.xlen
  exact stepGives_of_matchesBase matched rfl (by rw [hinst]; exact fields)

/-- Settles O46: with the field 0 the word has the pattern of the row of lr.w, and with another it matches no row. -/
theorem loadReservedNeedsZeroRs2 : Obligations.LoadReservedNeedsZeroRs2 := by
  intro s aq rl f rs1 rd h hvr
  change s.presents32 (amoWord 0b00010 aq rl f rs1 rd) at h
  by_cases hf : f = 0
  · rw [if_pos hf]
    subst hf
    have pattern := amoWord_and_amoMask 0b00010 aq rl 0 rs1 rd (.allOnes 5)
    obtain ⟨matched, hinst⟩ := matchesBase_of_presents32
      (r := ⟨.lrW, 32, 0xf9f0707f#32, 0x1000202f#32, xAll, none, []⟩) h (by decide +kernel) pattern
      ⟨rfl, rfl, rfl, rfl⟩
    obtain ⟨-, fields⟩ := materialize_amoWord 0b00010 aq rl 0 rs1 rd s.xlen
    exact stepGives_of_matchesBase matched rfl (by rw [hinst]; exact fields)
  · rw [if_neg hf]
    have mark : fetchLen ((amoWord 0b00010 aq rl f rs1 rd).extractLsb' 0 16) = fetchLen 0x202f := by
      refine fetchLen_congr ?_
      rw [extract_extract _ (by decide)]
      exact BitVec.extractLsb'_append_eq_right
    obtain ⟨hlen, hinst⟩ := inst_of_presents32 h (mark.trans (by decide))
    have nothing : ∀ hit, ¬ s.Candidate hit := by
      rintro (⟨c, r⟩ | ⟨c, v⟩) ⟨e, he, -, -, hrow, hv⟩
      · rw [hinst, hlen] at hv
        exact not_matches_of_lrW hf (mem_allRows he hrow) hv
      · obtain ⟨hmem, -⟩ := hv
        rw [hvr] at hmem
        cases hmem
    have gives := stepGives_of_no_candidate nothing
    rwa [hlen] at gives

/-- Settles O29: the encoded word has the pattern of the opcode's row and gives its codec the operand fields; no other
row matches it, so the dispatcher finds that row, and the lifter names it as the opcode is named. -/
theorem decodeOfEncode : Obligations.DecodeOfEncode := by
  intro s i o rest hwf hs hopen
  simp only [WellFormed, Bool.and_eq_true, decide_eq_true_eq] at hwf
  obtain ⟨⟨⟨⟨hpresent, hkeep⟩, hadmits⟩, hrow⟩, hname⟩ := hwf
  obtain ⟨hcodec, hlength, hcatalog, hshort⟩ := canonical_of_lifted hname
  obtain ⟨e, he, r, hr, hfound, hop, hx, hguard, hflag⟩ := row_of_presentAt hpresent
  obtain ⟨hcat, hwidth, hlen⟩ := row_shape he hr
  rw [hop] at hcat hwidth hlen
  have hr' := mem_allRows he hr
  have word : encodeWord s.xlen i o = r.value ||| pack r.op.codec s.xlen o := by
    rw [encodeWord, hfound, hcodec, hop]
  rw [hcodec, ← hop] at hkeep hadmits
  rw [← hop] at hrow
  obtain ⟨pattern, fields⟩ := word_of_row hr' hx hkeep hadmits hrow
  rw [← word] at pattern fields
  obtain ⟨instLen_eq, inst_eq⟩ := inst_of_encode hr' (hlength ▸ hlen) (hlength ▸ hwidth) word hadmits pattern hs
  have matched : r.matchesWord s.inst s.instLen s.xlen s.cfg = true := by
    rw [inst_eq, instLen_eq, word]
    exact word_of_row_matches hr' hx hflag hkeep hadmits hrow (hlength ▸ hwidth)
  have found := dispatch_of_row ⟨e, he, hguard, rfl, hr, matched⟩ (by rwa [← hcat, ← hcatalog])
  have named : (if r.nbits = 32 then r.op.lifted o else r.op) = i := by
    rw [hop]
    split_ifs with h32
    · exact hname
    · exact hshort (by omega)
  rw [inst_eq, operandsOf, hcodec, ← hop]
  refine ⟨?_, fields⟩
  rw [decode_of_dispatch_row found, inst_eq, fields, named]

end Sys2Proof.Machine
end

section
/-! Rules about the values that a codec's extractors can give, and the statements of 30_encoding.md on the codecs
settled with them (R105 to R109, R137 to R141, R300 to R374). -/

namespace Sys2Proof

/-! ### The ranges of an immediate -/

/-- An immediate fits `n` signed bits where it is in their range (R12). -/
theorem fitsSigned_iff_toInt {n : Nat} (h0 : 0 < n) (hn : n ≤ 32) {i : Imm} :
    fitsSigned n i = true ↔ -2 ^ (n - 1) ≤ i.toInt ∧ i.toInt < 2 ^ (n - 1) := by
  have value : ((i.setWidth n).signExtend 32).toInt = i.toInt.bmod (2 ^ n) := by
    rw [BitVec.toInt_signExtend_of_le hn, ← BitVec.signExtend_eq_setWidth_of_le _ hn,
      BitVec.toInt_signExtend_eq_toInt_bmod_of_le _ hn]
  have double : (2 : Int) ^ n = 2 * 2 ^ (n - 1) := by
    rw [← pow_succ', Nat.sub_add_cancel h0]
  have cast : ((2 ^ n : Nat) : Int) = 2 ^ n := by push_cast; rfl
  rw [fitsSigned, beq_iff_eq, ← BitVec.toInt_inj, value]
  generalize (2 : Int) ^ (n - 1) = half at *
  constructor
  · intro h
    have lower := Int.le_bmod (x := i.toInt) (m := 2 ^ n) (Nat.two_pow_pos n)
    have upper := Int.bmod_lt (x := i.toInt) (m := 2 ^ n) (Nat.two_pow_pos n)
    omega
  · intro h
    exact Int.bmod_eq_of_le (by omega) (by omega)

/-- An immediate fits `n` unsigned bits where it is below `2 ^ n` (R12). -/
theorem fitsUnsigned_iff_toNat {n : Nat} {i : Imm} : fitsUnsigned n i = true ↔ i.toNat < 2 ^ n := by
  constructor
  · intro h
    have low := congrArg BitVec.toNat (fitsUnsigned_iff.mp h)
    rw [← low, zextImm, BitVec.toNat_setWidth]
    exact lt_of_le_of_lt (Nat.mod_le _ _) (BitVec.isLt _)
  · exact fun h => fitsUnsigned_iff.mpr (zextImm_slice_of_lt h)

/-- An immediate is aligned where it is a multiple (R107). -/
theorem aligned_iff_toNat {k : Nat} {i : Imm} : aligned k i = true ↔ i.toNat % 2 ^ k = 0 := by
  rw [aligned, beq_iff_eq, ← BitVec.toNat_inj, BitVec.toNat_setWidth]
  rfl

/-- A signed immediate, by its bits as a number. -/
theorem toInt_cases (i : Imm) : i.toInt = i.toNat ∧ i.toNat < 2 ^ 31 ∨
    i.toInt = i.toNat - 2 ^ 32 ∧ 2 ^ 31 ≤ i.toNat ∧ i.toNat < 2 ^ 32 := by
  have bound := i.isLt
  rw [BitVec.toInt_eq_toNat_cond]
  split_ifs <;> omega

/-! ### What the extractors give -/

/-- A sign-extended field fits its own width and every greater one (R12). -/
theorem fitsSigned_sextImm {n m : Nat} (v : BitVec m) (h : 0 < m ∧ m ≤ n ∧ n ≤ 32) :
    fitsSigned n (sextImm v) = true := by
  obtain ⟨hpos, hmn, hn⟩ := h
  have lower := BitVec.le_toInt v
  have upper := BitVec.toInt_lt (x := v)
  have wider : (2 : Int) ^ (m - 1) ≤ 2 ^ (n - 1) := pow_le_pow_right₀ (by decide) (by omega)
  rw [fitsSigned_iff_toInt (by omega) hn, sextImm, BitVec.toInt_signExtend_of_le (by omega)]
  omega

/-- A zero-extended field fits its own width and every greater one (R12). -/
theorem fitsUnsigned_zextImm {n m : Nat} (v : BitVec m) (h : m ≤ n) : fitsUnsigned n (zextImm v) = true := by
  rw [fitsUnsigned_iff_toNat, zextImm, BitVec.toNat_setWidth]
  exact lt_of_le_of_lt (Nat.mod_le _ _) (lt_of_lt_of_le v.isLt (Nat.pow_le_pow_right (by decide) h))

/-- A sign-extended field with zeros below is aligned (R107). -/
theorem aligned_sextImm {n k : Nat} (v : BitVec n) (h : n + k ≤ 32) : aligned k (sextImm (v ++ 0#k)) = true := by
  rw [aligned, beq_iff_eq, sextImm]
  ext i hi
  rw [BitVec.getElem_setWidth, BitVec.getLsbD_signExtend, decide_eq_true (by omega), if_pos (by omega),
    BitVec.getLsbD_append, if_pos hi]
  simp

/-- A zero-extended field with zeros below is aligned (R107). -/
theorem aligned_zextImm {n k : Nat} (v : BitVec n) (h : n + k ≤ 32) : aligned k (zextImm (v ++ 0#k)) = true := by
  rw [aligned, beq_iff_eq, zextImm, BitVec.setWidth_setWidth_of_le _ (by omega)]
  exact BitVec.setWidth_append_eq_right

/-- A primed field names x8 to x15 (R139). -/
theorem isPrimed_primed (p : BitVec 3) : isPrimed (primed p) = true := by
  revert p
  decide

/-- An `sreg` field names s0 to s7 (R140). -/
theorem isSreg_sreg (p : BitVec 3) : isSreg (sreg p) = true := by
  revert p
  decide

/-- The shift amount of codec `i_sh` is below XLEN (R304). -/
theorem shiftAmount_lt (w : Inst) (x : Xlen) : (shiftAmount w x).toNat < x.bits := by
  cases x
  case x32 => exact fitsUnsigned_iff_toNat.mp (fitsUnsigned_zextImm (n := 5) (bits w 24 20) (by decide))
  case x64 => exact fitsUnsigned_iff_toNat.mp (fitsUnsigned_zextImm (n := 6) (bits w 25 20) (by decide))
  case x128 => exact fitsUnsigned_iff_toNat.mp (fitsUnsigned_zextImm (n := 7) (bits w 26 20) (by decide))

/-- The six bits of a 16-bit shift amount, as a number (R137, R138). -/
def shiftField (w : Inst) : Nat := 32 * (bits w 12 12).toNat + (bits w 6 2).toNat

/-- The left-shift amount as a number (R137). -/
theorem shamtL_toNat (w : Inst) (x : Xlen) :
    (shamtL w x).toNat = if x = .x128 ∧ shiftField w = 0 then 64 else shiftField w := by
  rw [shamtL, shiftField]
  generalize bits w 12 12 = high, bits w 6 2 = low
  revert high low
  cases x <;> decide

/-- The right-shift amount as a number (R138). -/
theorem shamtR_toNat (w : Inst) (x : Xlen) : (shamtR w x).toNat =
    if x = .x128 then (if shiftField w = 0 then 64 else if shiftField w < 32 then shiftField w else shiftField w + 64)
    else shiftField w := by
  rw [shamtR.eq_def, shiftField]
  generalize bits w 12 12 = high, bits w 6 2 = low
  revert high low
  cases x <;> decide

/-- The shift field has six bits. -/
theorem shiftField_lt (w : Inst) : shiftField w < 64 := by
  have high := (bits w 12 12).isLt
  have low := (bits w 6 2).isLt
  rw [shiftField]
  omega

/-- The left-shift amount is one that R137 gives. -/
theorem isShamtL_shamtL (w : Inst) (x : Xlen) : isShamtL x (shamtL w x) = true := by
  have small := shiftField_lt w
  cases x
  case x128 =>
    simp only [isShamtL, shamtL_toNat, if_true, true_and, decide_eq_true_eq]
    split_ifs <;> omega
  all_goals simpa [isShamtL, shamtL_toNat] using small

/-- The right-shift amount is one that R138 gives. -/
theorem isShamtR_shamtR (w : Inst) (x : Xlen) : isShamtR x (shamtR w x) = true := by
  have small := shiftField_lt w
  cases x
  case x128 =>
    simp only [isShamtR, shamtR_toNat, if_true, decide_eq_true_eq]
    split_ifs <;> omega
  all_goals simpa [isShamtR, shamtR_toNat] using small

/-- The stack adjustment is one that R141 gives. -/
theorem isStackAdj_stackAdj (rlist : BitVec 4) (spimm : BitVec 2) (x : Xlen) :
    isStackAdj rlist (BitVec.ofNat 32 (stackAdj rlist spimm x)) x = true := by
  revert rlist spimm
  cases x <;> decide

/-- What a codec extracts, it admits (R105 to R108, R137 to R141, R300 to R374). -/
theorem admits_materialize (c : Codec) (w : Inst) (x : Xlen) : c.admits x (materialize c w x) = true := by
  cases c
  case i_sh => exact decide_eq_true (shiftAmount_lt w x)
  case vsetivli =>
    have narrow := fitsUnsigned_zextImm (n := 10) (bits w 29 20) (by decide)
    rw [zextImm, ← BitVec.setWidth_setWidth (v := 11) (by decide)] at narrow
    rw [Codec.admits, Bool.and_eq_true]
    exact ⟨fitsUnsigned_zextImm (n := 5) (bits w 19 15) (by decide), narrow⟩
  all_goals
    simp (disch := decide) only [Codec.admits, materialize, fitsSigned_sextImm, fitsUnsigned_zextImm,
      aligned_sextImm, aligned_zextImm, isPrimed_primed, isSreg_sreg, isShamtL_shamtL, isShamtR_shamtR, neg_neg,
      isStackAdj_stackAdj, beq_self_eq_true, Bool.and_self]

end Sys2Proof

namespace Sys2Proof.Machine

/-! ### The statements -/

/-- Settles O31: each field is cut out of the packed word. -/
theorem codecsInvert : Obligations.CodecsInvert :=
  fun _ _ _ hkeep hadmits => materialize_pack hkeep hadmits

/-- Settles O35: what a codec extracts it admits, and an admitted immediate is in its codec's range. -/
theorem immediateRanges : Obligations.ImmediateRanges := by
  intro w x imm
  refine ⟨fun c least greatest scale h => ?_, rfl, ?_, ?_, ?_, fun c hc => ?_⟩
  · have admitted := admits_materialize c w x
    change least ≤ (materialize c w x).imm.toInt ∧ (materialize c w x).imm.toInt ≤ greatest ∧
      (materialize c w x).imm.toInt % scale = 0
    generalize materialize c w x = o at admitted
    have value := toInt_cases o.imm
    cases c <;> simp only [List.mem_cons, List.not_mem_nil, Prod.mk.injEq, reduceCtorEq, false_and, true_and, or_false,
      false_or] at h
    all_goals
      obtain ⟨rfl, rfl, rfl⟩ := h
      simp (disch := decide) only [Codec.admits, Bool.and_eq_true, fitsSigned_iff_toInt, fitsUnsigned_iff_toNat,
        aligned_iff_toNat] at admitted
      omega
  · have amount := shiftAmount_lt w x
    have width : x.bits ≤ 128 := by cases x <;> decide
    have value := toInt_cases (shiftAmount w x)
    change 0 ≤ (shiftAmount w x).toInt ∧ (shiftAmount w x).toInt < x.bits
    omega
  · have admitted := admits_materialize .vsetivli w x
    rw [Codec.admits, Bool.and_eq_true, fitsUnsigned_iff_toNat, fitsUnsigned_iff_toNat,
      BitVec.toNat_setWidth_of_le (by decide)] at admitted
    exact admitted.2
  · have admitted := admits_materialize .r2_immhl w x
    rw [Codec.admits, Bool.and_eq_true, fitsUnsigned_iff_toNat, fitsUnsigned_iff_toNat] at admitted
    exact admitted.2
  · fin_cases hc <;> rfl

/-- Settles O36: the shift field has six bits, and the amounts are given as numbers. -/
theorem compressedShiftAmounts : Obligations.CompressedShiftAmounts :=
  fun w x => ⟨shamtL_toNat w x, shamtR_toNat w x⟩

/-- Settles O37: the registers' bytes are rounded up to 16 before 16 times spimm is added. -/
theorem stackAdjustment : Obligations.StackAdjustment := by
  intro rlist spimm x regs bytes
  have base : stackAdj rlist spimm x = (bytes + 15) / 16 * 16 + 16 * spimm.toNat := by
    cases x <;> rfl
  rw [base]
  omega

/-- Settles O38: the map is checked at its eight fields, and the codec applies it to both. -/
theorem zcmpRegisterMap : Obligations.ZcmpRegisterMap :=
  ⟨by decide, fun _ _ => ⟨rfl, rfl⟩⟩

end Sys2Proof.Machine
end

section
/-! Rules about the words that a matching row leaves: the field values that the row of an opcode does not hold, by its
exclusions or its fixed bits, and the statement of 30_encoding.md on decoded opcodes settled with them (R110 to
R121). -/

namespace Sys2Proof

/-! ### Field values as sub-patterns -/

/-- Every XLEN is in the set of all. -/
theorem mem_xAll (x : Xlen) : x ∈ xAll := by
  cases x <;> decide

/-- The words with the value at a field, at these XLENs and under this flag, as a sub-pattern. -/
def fieldExcl (hi lo : Nat) (v : BitVec (hi - lo + 1)) (xlens : List Xlen := xAll) (flag : Option Flag := none) :
    Excl :=
  ⟨(BitVec.allOnes (hi - lo + 1)).setWidth 32 <<< lo, v.setWidth 32 <<< lo, xlens, flag⟩

/-- The words of two sub-patterns, at the XLENs and under the flag of the first. -/
def Excl.meet (e f : Excl) : Excl := ⟨e.mask ||| f.mask, e.value ||| f.value, e.xlens, e.flag⟩

/-- A word with the value at the field is in the field's sub-pattern. -/
theorem fieldExcl_hits {w : Inst} {hi lo : Nat} {v : BitVec (hi - lo + 1)} (h : bits w hi lo = v) {xlens : List Xlen}
    {x : Xlen} (hx : x ∈ xlens) {flag : Option Flag} {cfg : Cfg} (hflag : flagHolds cfg flag = true) :
    (fieldExcl hi lo v xlens flag).hits w x cfg = true := by
  refine Excl.hits_iff.mpr ⟨hx, hflag, ?_⟩
  subst h
  ext i hi32
  simp only [fieldExcl, bits, BitVec.extractLsb, BitVec.getElem_and, BitVec.getElem_shiftLeft, BitVec.getElem_setWidth,
    BitVec.getLsbD_allOnes, BitVec.getLsbD_extractLsb']
  by_cases hlo : i < lo
  · simp [hlo]
  · rw [Nat.add_sub_cancel' (by omega), BitVec.getLsbD_eq_getElem hi32, Bool.and_comm, Bool.and_assoc]

/-- A word in two sub-patterns is in their meet. -/
theorem Excl.meet_hits {e f : Excl} {w : Inst} {x : Xlen} {cfg : Cfg} (he : e.hits w x cfg = true)
    (hf : f.hits w x cfg = true) : (e.meet f).hits w x cfg = true := by
  obtain ⟨hx, hflag, hpattern⟩ := Excl.hits_iff.mp he
  obtain ⟨-, -, hpattern'⟩ := Excl.hits_iff.mp hf
  refine Excl.hits_iff.mpr ⟨hx, hflag, ?_⟩
  rw [Excl.meet, BitVec.and_or_distrib_left, hpattern, hpattern']

/-- The words of a sub-pattern of this width, as a row; the opcode plays no part in a match. -/
def Excl.asRow (e : Excl) (nbits : Nat) : Row := ⟨.nop, nbits, e.mask, e.value, e.xlens, e.flag, []⟩

/-- A word in a sub-pattern matches it as a row of the word's width. -/
theorem Excl.asRow_matches {e : Excl} {w : Inst} {x : Xlen} {cfg : Cfg} (h : e.hits w x cfg = true) (len : Nat) :
    (e.asRow (8 * len)).matchesWord w len x cfg = true := by
  obtain ⟨hx, hflag, hpattern⟩ := Excl.hits_iff.mp h
  exact Row.matchesWord_iff.mpr ⟨hpattern, rfl, hx, hflag, fun _ he => nomatch he⟩

/-! ### What the row of an opcode does not hold -/

/-- The sub-patterns that the row of an opcode does not hold, by an exclusion or by its fixed bits (R115, R116,
R120). -/
def Instr.barred : Instr → List Excl
  | .pack => [fieldExcl 24 20 0 x32]
  | .packw => [fieldExcl 24 20 0]
  | .aes64ks1i => [fieldExcl 23 20 11, fieldExcl 23 20 12, fieldExcl 23 20 13, fieldExcl 23 20 14, fieldExcl 23 20 15]
  | .cAddi => [((fieldExcl 12 12 0).meet (fieldExcl 11 7 0)).meet (fieldExcl 6 2 0)]
  | .cAddiw | .cLqsp | .cLwsp | .cLdsp | .cJr | .cJalr => [fieldExcl 11 7 0]
  | .cLui => [fieldExcl 11 7 2]
  | .cSrli | .cSrai | .cSlli => [fieldExcl 12 12 1 x32]
  | .cMv | .cAdd => [fieldExcl 6 2 0]
  | .cFsdsp => [(fieldExcl 12 11 0b11 xAll (some .zcmp)).meet (fieldExcl 8 8 0),
      (fieldExcl 12 10 0b011 xAll (some .zcmp)).meet (fieldExcl 5 5 1), fieldExcl 12 10 0 xAll (some .zcmt)]
  | .cSqsp => [(fieldExcl 12 11 0b11 xAll (some .zcmp)).meet (fieldExcl 8 8 0),
      ((fieldExcl 12 11 0b01 xAll (some .zcmp)).meet (fieldExcl 10 10 1)).meet (fieldExcl 5 5 1),
      (fieldExcl 12 11 0 xAll (some .zcmt)).meet (fieldExcl 10 10 0)]
  | .cmPush | .cmPop | .cmPopretz | .cmPopret =>
    [fieldExcl 7 4 0, fieldExcl 7 4 1, fieldExcl 7 4 2, fieldExcl 7 4 3]
  | .cmMvsa01 => [0, 1, 2, 3, 4, 5, 6, 7].map fun p => (fieldExcl 9 7 p).meet (fieldExcl 4 2 p)
  | .cmJt => [1, 2, 3, 4, 5, 6, 7].map fun high => fieldExcl 9 7 high
  | .cmJalt => [fieldExcl 9 7 0]
  | .vadcVvm | .vadcVxm | .vadcVim | .vmadcVvm | .vmadcVxm | .vmadcVim | .vsbcVvm | .vsbcVxm | .vmsbcVvm |
  .vmsbcVxm | .vmergeVvm | .vmergeVxm | .vmergeVim | .vfmergeVfm => [fieldExcl 25 25 1]
  | .vmadcVv | .vmadcVx | .vmadcVi | .vmsbcVv | .vmsbcVx | .vmv1rV | .vmv2rV | .vmv4rV | .vmv8rV | .vmvXS |
  .vcompressVm | .vmandnMm | .vmandMm | .vmorMm | .vmxorMm | .vmornMm | .vmnandMm | .vmnorMm | .vmxnorMm |
  .vfmvFS | .vl1re8V | .vl2re8V | .vl4re8V | .vl8re8V | .vl1re16V | .vl2re16V | .vl4re16V | .vl8re16V |
  .vl1re32V | .vl2re32V | .vl4re32V | .vl8re32V | .vl1re64V | .vl2re64V | .vl4re64V | .vl8re64V | .vs1rV |
  .vs2rV | .vs4rV | .vs8rV | .vlmV | .vsmV => [fieldExcl 25 25 0]
  | .vmvVV | .vmvVX | .vmvVI | .vmvSX | .vfmvSF | .vfmvVF =>
    fieldExcl 25 25 0 :: (List.range 31).map fun k => fieldExcl 24 20 (BitVec.ofNat 5 (k + 1))
  | _ => []

/-- What holds of the rows of each part holds of every row. -/
theorem allRows_all {f : Row → Bool} (h : givenParts.all (fun p => p.rows.all f) = true) : allRows.all f = true := by
  rw [allRows_eq, List.all_flatMap]
  exact h

/-- The row of an opcode is apart from each of these. -/
theorem allRows_barred : allRows.all (fun r => r.op.barred.all (fun e => r.apart (e.asRow r.nbits))) = true :=
  allRows_all (by decide)

/-- A word that a row matches is in none of the sub-patterns that the row does not hold. -/
theorem not_hits_of_matches {r : Row} (hr : r ∈ allRows) {w : Inst} {len : Nat} {x : Xlen} {cfg : Cfg}
    (h : r.matchesWord w len x cfg = true) {e : Excl} (he : e ∈ r.op.barred) : ¬ e.hits w x cfg = true := by
  intro hit
  have apart := List.all_eq_true.mp (List.all_eq_true.mp allRows_barred r hr) e he
  obtain ⟨-, hwidth, -⟩ := Row.matchesWord_iff.mp h
  rw [hwidth] at apart
  exact Row.not_both_of_apart apart h (Excl.asRow_matches hit len)

/-- The row of an opcode admits every operand value unless it does not hold some. -/
theorem rowAdmits_or_barred (i : Instr) (x : Xlen) (cfg : Cfg) (o : Operands) :
    (!i.barred.isEmpty || rowAdmits x cfg i o) = true := by
  cases i <;> rfl

/-- A six-bit immediate is 0 where its two fields are. -/
theorem fields_of_sextImm_zero {a : BitVec 1} {b : BitVec 5} (h : sextImm (a ++ b) = 0) : a = 0 ∧ b = 0 := by
  revert a b
  decide

/-- A shift field whose high bit is not 1 is below 32. -/
theorem shiftField_lt_of_high {w : Inst} (h : bits w 12 12 ≠ 1) : shiftField w < 32 := by
  rw [shiftField]
  generalize bits w 12 12 = high, bits w 6 2 = low at h ⊢
  revert high low
  decide

/-- Fields that name one `sreg` register are one (R140). -/
theorem sreg_injective {p q : BitVec 3} (h : sreg p = sreg q) : p = q := by
  revert p q
  decide

/-- A word with a one among its bits 9 to 7 has a jump-table index of 32 or more (R370). -/
theorem le_jumpIndex {w : Inst} (h : bits w 9 7 ≠ 0) : 32 ≤ (zextImm (bits w 9 2)).toNat := by
  have high : (bits w 9 7).toNat ≠ 0 := fun zero => h (BitVec.eq_of_toNat_eq zero)
  rw [bits, BitVec.extractLsb_toNat, Nat.shiftRight_eq_div_pow] at high
  rw [zextImm, BitVec.toNat_setWidth, bits, BitVec.extractLsb_toNat, Nat.shiftRight_eq_div_pow]
  norm_num at high ⊢
  omega

/-- A word in none of the areas carved out of `c.fsdsp` is outside them as a word of the row (R116, R351). -/
theorem outsideCarveFsdsp_of_not_hits {w : Inst} {x : Xlen} {cfg : Cfg}
    (h : ∀ e ∈ Instr.barred .cFsdsp, ¬ e.hits w x cfg = true) :
    outsideCarveFsdsp cfg (materialize .css_sdsp w x) = true := by
  have every := mem_xAll x
  obtain ⟨h54, h77, h53, h33⟩ := css_sdsp_slices w x
  simp only [outsideCarveFsdsp, h54, h77, h53, h33, Bool.and_eq_true, Bool.not_eq_true', Bool.eq_false_iff, ne_eq,
    beq_iff_eq]
  obtain ⟨h₁, h₂, h₃⟩ := List.forall_mem_cons.mp h |>.imp_right fun h => List.forall_mem_cons.mp h
  refine ⟨⟨fun ⟨⟨hf, ha⟩, hb⟩ => h₁ ?_, fun ⟨⟨hf, ha⟩, hb⟩ => h₂ ?_⟩, fun ⟨hf, ha⟩ => h₃ _ List.mem_cons_self ?_⟩
  · exact Excl.meet_hits (fieldExcl_hits ha every hf) (fieldExcl_hits hb every rfl)
  · exact Excl.meet_hits (fieldExcl_hits ha every hf) (fieldExcl_hits hb every rfl)
  · exact fieldExcl_hits ha every hf

/-- A word in none of the areas carved out of `c.sqsp` is outside them as a word of the row (R116, R352). -/
theorem outsideCarveSqsp_of_not_hits {w : Inst} {x : Xlen} {cfg : Cfg}
    (h : ∀ e ∈ Instr.barred .cSqsp, ¬ e.hits w x cfg = true) :
    outsideCarveSqsp cfg (materialize .css_sqsp w x) = true := by
  have every := mem_xAll x
  obtain ⟨h54, h77, h99, h33⟩ := css_sqsp_slices w x
  simp only [outsideCarveSqsp, h54, h77, h99, h33, Bool.and_eq_true, Bool.not_eq_true', Bool.eq_false_iff, ne_eq,
    beq_iff_eq]
  obtain ⟨h₁, h₂, h₃⟩ := List.forall_mem_cons.mp h |>.imp_right fun h => List.forall_mem_cons.mp h
  refine ⟨⟨fun ⟨⟨hf, ha⟩, hb⟩ => h₁ ?_, fun ⟨⟨⟨hf, ha⟩, hb⟩, hd⟩ => h₂ ?_⟩,
    fun ⟨⟨hf, ha⟩, hb⟩ => h₃ _ List.mem_cons_self ?_⟩
  · exact Excl.meet_hits (fieldExcl_hits ha every hf) (fieldExcl_hits hb every rfl)
  · exact Excl.meet_hits (Excl.meet_hits (fieldExcl_hits ha every hf) (fieldExcl_hits hb every rfl))
      (fieldExcl_hits hd every rfl)
  · exact Excl.meet_hits (fieldExcl_hits ha every hf) (fieldExcl_hits hb every rfl)

/-- A word in none of the sub-patterns that the opcode's row does not hold gives operand fields that the row admits. -/
theorem rowAdmits_of_not_hits {i : Instr} {w : Inst} {x : Xlen} {cfg : Cfg}
    (h : ∀ e ∈ i.barred, ¬ e.hits w x cfg = true) : rowAdmits x cfg i (materialize i.codec w x) = true := by
  have every := mem_xAll x
  have unbarred := rowAdmits_or_barred i x cfg (materialize i.codec w x)
  rw [Bool.or_eq_true] at unbarred
  have field {hi lo : Nat} {v : BitVec (hi - lo + 1)} (hmem : fieldExcl hi lo v ∈ i.barred) : bits w hi lo ≠ v :=
    fun hv => h _ hmem (fieldExcl_hits hv every rfl)
  have field32 {hi lo : Nat} {v : BitVec (hi - lo + 1)} (hmem : fieldExcl hi lo v x32 ∈ i.barred) (hx : x = .x32) :
      bits w hi lo ≠ v := by
    subst hx
    exact fun hv => h _ hmem (fieldExcl_hits hv (by decide) rfl)
  unfold Instr.barred at h field field32 unbarred
  split at h
  next => -- pack
    change (x != .x32 || bits w 24 20 != 0) = true
    rw [Bool.or_eq_true, bne_iff_ne, bne_iff_ne, or_iff_not_imp_left, not_not]
    exact field32 List.mem_cons_self
  next => exact bne_iff_ne.mpr (field (hi := 24) (lo := 20) List.mem_cons_self) -- packw
  next => -- aes64ks1i
    refine decide_eq_true (Nat.not_lt.mp fun big => field (v := bits w 23 20) ?_ rfl)
    change 10 < (bits w 23 20).toNat at big
    generalize bits w 23 20 = k at big ⊢
    revert k
    decide
  next => -- c.addi
    change (bits w 11 7 != 0 || sextImm (bits w 12 12 ++ bits w 6 2) != 0) = true
    rw [Bool.or_eq_true, bne_iff_ne, bne_iff_ne, or_iff_not_imp_left, not_not]
    intro hrd himm
    obtain ⟨h12, h62⟩ := fields_of_sextImm_zero himm
    exact h _ List.mem_cons_self (Excl.meet_hits (Excl.meet_hits (fieldExcl_hits h12 every rfl)
      (fieldExcl_hits hrd every rfl)) (fieldExcl_hits h62 every rfl))
  iterate 7 -- c.addiw, c.lqsp, c.lwsp, c.ldsp, c.jr, c.jalr, c.lui
    · exact bne_iff_ne.mpr (field (hi := 11) (lo := 7) List.mem_cons_self)
  iterate 2 -- c.srli, c.srai
    · change (x != .x32 || decide ((shamtR w x).toNat < 32)) = true
      rw [Bool.or_eq_true, bne_iff_ne, decide_eq_true_eq, or_iff_not_imp_left, not_not]
      intro hx
      rw [shamtR_toNat, if_neg (by simp [hx])]
      exact shiftField_lt_of_high (field32 List.mem_cons_self hx)
  next => -- c.slli
    change (x != .x32 || decide ((shamtL w x).toNat < 32)) = true
    rw [Bool.or_eq_true, bne_iff_ne, decide_eq_true_eq, or_iff_not_imp_left, not_not]
    intro hx
    rw [shamtL_toNat, if_neg (by simp [hx])]
    exact shiftField_lt_of_high (field32 List.mem_cons_self hx)
  iterate 2 -- c.mv, c.add
    · exact bne_iff_ne.mpr (field (hi := 6) (lo := 2) List.mem_cons_self)
  next => exact outsideCarveFsdsp_of_not_hits h -- c.fsdsp
  next => exact outsideCarveSqsp_of_not_hits h -- c.sqsp
  iterate 4 -- cm.push, cm.pop, cm.popretz, cm.popret
    · refine decide_eq_true (Nat.not_lt.mp fun small => field (v := bits w 7 4) ?_ rfl)
      change (bits w 7 4).toNat < 4 at small
      generalize bits w 7 4 = k at small ⊢
      revert k
      decide
  next => -- cm.mvsa01
    refine bne_iff_ne.mpr fun same => h _ (List.mem_map_of_mem (a := bits w 9 7) ?_)
      (Excl.meet_hits (fieldExcl_hits rfl every rfl) (fieldExcl_hits (sreg_injective same).symm every rfl))
    generalize bits w 9 7 = p
    revert p
    decide
  next => -- cm.jt
    have zero : bits w 9 7 = 0 := by
      by_contra high
      refine field (v := bits w 9 7) (List.mem_map_of_mem (f := fun high => fieldExcl 9 7 high) ?_) rfl
      generalize bits w 9 7 = k at high ⊢
      revert k
      decide
    exact decide_eq_true (jumpIndex_lt zero)
  next => exact decide_eq_true (le_jumpIndex (field List.mem_cons_self)) -- cm.jalt
  iterate 14 -- vm fixed at 0
    · exact beq_iff_eq.mpr ((BitVec.eq_zero_or_eq_one _).resolve_right (field (hi := 25) (lo := 25) List.mem_cons_self))
  iterate 42 -- vm fixed at 1
    · exact beq_iff_eq.mpr ((BitVec.eq_zero_or_eq_one _).resolve_left (field (hi := 25) (lo := 25) List.mem_cons_self))
  iterate 6 -- rs2 fixed at 0 and vm at 1
    · have zero : bits w 24 20 = 0 := by
        by_contra high
        have listed : ∀ k : BitVec 5, k ≠ 0 → k ∈ (List.range 31).map fun k => BitVec.ofNat 5 (k + 1) := by decide
        obtain ⟨k, hk, hvalue⟩ := List.mem_map.mp (listed _ high)
        exact field (List.mem_cons_of_mem _ (List.mem_map_of_mem hk)) hvalue.symm
      exact Bool.and_eq_true_iff.mpr ⟨beq_iff_eq.mpr zero,
        beq_iff_eq.mpr ((BitVec.eq_zero_or_eq_one _).resolve_left (field (hi := 25) (lo := 25) List.mem_cons_self))⟩
  next => exact unbarred.resolve_left (by simp) -- every other opcode

/-- A word that a row matches gives operand fields that the row admits (R115, R116, R120). -/
theorem rowAdmits_of_matches {r : Row} (hr : r ∈ allRows) {w : Inst} {len : Nat} {x : Xlen} {cfg : Cfg}
    (h : r.matchesWord w len x cfg = true) : rowAdmits x cfg r.op (materialize r.op.codec w x) = true :=
  rowAdmits_of_not_hits fun _ he => not_hits_of_matches hr h he

/-! ### The name of a decoded opcode -/

/-- The opcode that a rule of a list names has the list's opcode as its canonical opcode (R211, 48_pseudo.md). -/
theorem all_pseudo_canonical (i : Instr) : i.descriptor.pseudo.all (fun p => p.op.canonical == i) = true := by
  cases i <;> rfl

/-- A row's opcode is its own canonical opcode (R212). -/
theorem allRows_canonical : allRows.all (fun r => r.op.canonical == r.op) = true := allRows_all (by decide)

/-- The name that the lifter gives a row's opcode leads back to it. -/
theorem canonical_lifted {r : Row} (hr : r ∈ allRows) (o : Operands) : (r.op.lifted o).canonical = r.op := by
  rcases lifted_cases r.op o with ⟨-, h⟩ | ⟨p, hp, -, h⟩ <;> rw [h]
  · exact beq_iff_eq.mp (List.all_eq_true.mp allRows_canonical r hr)
  · exact beq_iff_eq.mp (List.all_eq_true.mp (all_pseudo_canonical r.op) p hp)

/-- The lifter leaves a 16-bit opcode as it is (R211). -/
theorem lifted_of_short {i : Instr} (h : i.length ≠ 4) (o : Operands) : i.lifted o = i := by
  rcases lifted_cases i o with ⟨-, hself⟩ | ⟨p, hp, -, -⟩
  · exact hself
  · obtain ⟨-, hlen, -⟩ := pseudo_coherent hp
    exact absurd hlen h

end Sys2Proof

namespace Sys2Proof.Machine

/-- The decoder names an opcode as the lifter does, with the operand fields of a matching row (R203, R206, R211). -/
theorem row_of_decode {s : State} {i : Instr} (h : decode s.win s.xlen s.cfg s.vendorRows = .instr i) :
    ∃ r, s.Candidate (.row r.op.catalog r) ∧ i = r.op.lifted (materialize r.op.codec s.inst s.xlen) := by
  rcases decode_cases s with ⟨r, -, hlen, hd, hname⟩ | ⟨v, -, -, hopen⟩ | ⟨why, -, hrejected⟩
  · refine ⟨r, candidate_of_dispatch hd, ?_⟩
    obtain rfl := Decoded.instr.inj (h.symm.trans hname)
    split_ifs with h4
    · rfl
    · exact (lifted_of_short (hlen ▸ h4) _).symm
  · cases h.symm.trans hopen
  · cases h.symm.trans hrejected

/-! ### The statements -/

/-- Settles O30: the decoded opcode is the lifter's name for the opcode of a row that matches; its codec gives what it
admits, and the word is in nothing that the row does not hold. -/
theorem decodedIsWellFormed : Obligations.DecodedIsWellFormed := by
  intro s i hd
  obtain ⟨r, ⟨e, he, hguard, -, hr, hm⟩, hname⟩ := row_of_decode hd
  have hr' := mem_allRows he hr
  have canonical : i.canonical = r.op := hname ▸ canonical_lifted hr' _
  have named : i.canonical.lifted (materialize r.op.codec s.inst s.xlen) = i := by rw [canonical, hname]
  have codec : i.codec = r.op.codec := (canonical_of_lifted named).1.trans (by rw [canonical])
  obtain ⟨-, -, hx, hflag, -⟩ := Row.matchesWord_iff.mp hm
  have present : presentAt s.xlen s.cfg i = true := by
    refine List.any_eq_true.mpr ⟨e, he, ?_⟩
    rw [hguard, Bool.true_and]
    refine List.any_eq_true.mpr ⟨r, hr, ?_⟩
    rw [canonical, beq_self_eq_true, List.contains_iff_mem.mpr hx, hflag]
    rfl
  rw [WellFormed, operandsOf, codec, present, keep_materialize, admits_materialize, canonical,
    rowAdmits_of_matches hr' hm, ← hname]
  simp

end Sys2Proof.Machine
end

section
/-! Rules about the step at the words of one instruction format, and the statements of 30_encoding.md about such words
settled with them (R101 to R104, R110 to R124). -/

namespace Sys2Proof

/-! ### Words of the R and the I format -/

/-- A word of the R format and of those that share its field boundaries (R101). -/
def rWord (f7 : BitVec 7) (rs2 rs1 : RegIdx) (f3 : BitVec 3) (rd : RegIdx) (op : BitVec 7) : Inst :=
  f7 ++ rs2 ++ rs1 ++ f3 ++ rd ++ op

/-- A word of the I format (R101). -/
def iWord (imm : BitVec 12) (rs1 : RegIdx) (f3 : BitVec 3) (rd : RegIdx) (op : BitVec 7) : Inst :=
  imm ++ rs1 ++ f3 ++ rd ++ op

/-- The bits of an R word under a mask that leaves rs1 and rd out. -/
theorem rWord_and_mask {f7 m7 v7 : BitVec 7} {rs2 m2 v2 : RegIdx} {f3 m3 v3 : BitVec 3} (h7 : f7 &&& m7 = v7)
    (h2 : rs2 &&& m2 = v2) (h3 : f3 &&& m3 = v3) (rs1 rd : RegIdx) (op : BitVec 7) :
    rWord f7 rs2 rs1 f3 rd op &&& rWord m7 m2 0 m3 0 (.allOnes 7) = rWord v7 v2 0 v3 0 op :=
  append_and_append_eq (append_and_append_eq (append_and_append_eq (append_and_append_eq (append_and_append_eq h7 h2)
    BitVec.and_zero) h3) BitVec.and_zero) BitVec.and_allOnes

/-- The bits of an I word under a mask that leaves rs1 and rd out. -/
theorem iWord_and_mask {imm mi vi : BitVec 12} {f3 m3 v3 : BitVec 3} (hi : imm &&& mi = vi) (h3 : f3 &&& m3 = v3)
    (rs1 rd : RegIdx) (op : BitVec 7) :
    iWord imm rs1 f3 rd op &&& iWord mi 0 m3 0 (.allOnes 7) = iWord vi 0 v3 0 op :=
  append_and_append_eq (append_and_append_eq (append_and_append_eq (append_and_append_eq hi BitVec.and_zero) h3)
    BitVec.and_zero) BitVec.and_allOnes

/-- The mask of funct3 and the major opcode, on an R word. -/
theorem rWord_and_opcode (f7 : BitVec 7) (rs2 rs1 : RegIdx) (f3 : BitVec 3) (rd : RegIdx) (op : BitVec 7) :
    rWord f7 rs2 rs1 f3 rd op &&& 0x0000707f = rWord 0 0 0 f3 0 op :=
  rWord_and_mask (m7 := 0#7) (m2 := 0#5) BitVec.and_zero BitVec.and_zero BitVec.and_allOnes rs1 rd op

/-- The mask of funct3 and the major opcode, on an I word. -/
theorem iWord_and_opcode (imm : BitVec 12) (rs1 : RegIdx) (f3 : BitVec 3) (rd : RegIdx) (op : BitVec 7) :
    iWord imm rs1 f3 rd op &&& 0x0000707f = iWord 0 0 f3 0 op :=
  iWord_and_mask (mi := 0#12) BitVec.and_zero BitVec.and_allOnes rs1 rd op

/-- The major opcode of an R word gives its length (R62). -/
theorem fetchLen_rWord (f7 : BitVec 7) (rs2 rs1 : RegIdx) (f3 : BitVec 3) (rd : RegIdx) (op : BitVec 7) :
    fetchLen ((rWord f7 rs2 rs1 f3 rd op).extractLsb' 0 16) = fetchLen (op.setWidth 16) := by
  refine fetchLen_congr ?_
  rw [extract_extract _ (by decide), BitVec.extractLsb'_setWidth_of_le (by decide), BitVec.extractLsb'_eq_self]
  exact BitVec.extractLsb'_append_eq_right

/-- The major opcode of an I word gives its length (R62). -/
theorem fetchLen_iWord (imm : BitVec 12) (rs1 : RegIdx) (f3 : BitVec 3) (rd : RegIdx) (op : BitVec 7) :
    fetchLen ((iWord imm rs1 f3 rd op).extractLsb' 0 16) = fetchLen (op.setWidth 16) := by
  refine fetchLen_congr ?_
  rw [extract_extract _ (by decide), BitVec.extractLsb'_setWidth_of_le (by decide), BitVec.extractLsb'_eq_self]
  exact BitVec.extractLsb'_append_eq_right

/-! ### What the codecs read off such words -/

section
variable (f7 : BitVec 7) (rs2 rs1 : RegIdx) (f3 : BitVec 3) (rd : RegIdx) (op : BitVec 7) (x : Xlen)

/-- The codecs that read an R word by its fields (R309, R311, R312). -/
theorem materialize_rWord :
    materialize .r (rWord f7 rs2 rs1 f3 rd op) x = { rd, rs1, rs2 } ∧
      materialize .r_m (rWord f7 rs2 rs1 f3 rd op) x = { rd, rs1, rs2, rm := f3 } ∧
      materialize .s (rWord f7 rs2 rs1 f3 rd op) x = { rs1, rs2, imm := sextImm (f7 ++ rd) } := by
  simp (disch := decide) only [rWord, materialize, bits, BitVec.extractLsb, BitVec.extractLsb'_append_eq_of_le,
    BitVec.extractLsb'_append_eq_of_add_le]
  simp only [Nat.reduceSub, Nat.reduceAdd, BitVec.extractLsb'_eq_self, and_self]

/-- The R4 codec reads a third source register above the two bits of the format (R315). -/
theorem materialize_r4 (rs3 : RegIdx) (fmt : BitVec 2) : materialize .r4_m (rWord (rs3 ++ fmt) rs2 rs1 f3 rd op) x =
    { rd, rs1, rs2, rs3, rm := f3 } := by
  simp (disch := decide) only [rWord, materialize, bits, BitVec.extractLsb, BitVec.extractLsb'_append_eq_of_le,
    BitVec.extractLsb'_append_eq_of_add_le]
  simp only [Nat.reduceSub, Nat.reduceAdd, BitVec.extractLsb'_eq_self]

/-- The vector codecs read vm, and an immediate at rs1 or none at rs2 (R329 to R331). -/
theorem materialize_vm (f6 : BitVec 6) (vm : BitVec 1) :
    materialize .v_i (rWord (f6 ++ vm) rs2 rs1 f3 rd op) x = { rd, rs2, imm := sextImm rs1, vm } ∧
      materialize .v_iu (rWord (f6 ++ vm) rs2 rs1 f3 rd op) x = { rd, rs2, imm := zextImm rs1, vm } ∧
      materialize .v_ldst_u (rWord (f6 ++ vm) rs2 rs1 f3 rd op) x = { rd, rs1, vm } := by
  simp (disch := decide) only [rWord, materialize, bits, BitVec.extractLsb, BitVec.extractLsb'_append_eq_of_le,
    BitVec.extractLsb'_append_eq_of_add_le]
  simp only [Nat.reduceSub, Nat.reduceAdd, BitVec.extractLsb'_eq_self, and_self]

/-- The B codec joins the offset's bits in the order of R106 (R310). -/
theorem materialize_b (b12 : BitVec 1) (hi : BitVec 6) (lo : BitVec 4) (b11 : BitVec 1) :
    materialize .b (rWord (b12 ++ hi) rs2 rs1 f3 (lo ++ b11) op) x =
      { rs1, rs2, imm := sextImm (b12 ++ b11 ++ hi ++ lo ++ 0#1) } := by
  simp (disch := decide) only [rWord, materialize, bits, BitVec.extractLsb, BitVec.extractLsb'_append_eq_of_le,
    BitVec.extractLsb'_append_eq_of_add_le]
  simp only [Nat.reduceSub, Nat.reduceAdd, BitVec.extractLsb'_eq_self]

/-- The codecs that read an I word by its fields (R303, R307). -/
theorem materialize_iWord (imm : BitVec 12) :
    materialize .i (iWord imm rs1 f3 rd op) x = { rd, rs1, imm := sextImm imm } ∧
      materialize .i_csr (iWord imm rs1 f3 rd op) x = { rd, rs1, csr := imm } := by
  simp (disch := decide) only [iWord, materialize, bits, BitVec.extractLsb, BitVec.extractLsb'_append_eq_of_le,
    BitVec.extractLsb'_append_eq_of_add_le]
  simp only [Nat.reduceSub, Nat.reduceAdd, BitVec.extractLsb'_eq_self, and_self]

/-- The round number is the low four bits of the I word's immediate (R322). -/
theorem materialize_rnum (f8 : BitVec 8) (rnum : BitVec 4) :
    materialize .k_rnum (iWord (f8 ++ rnum) rs1 f3 rd op) x = { rd, rs1, rnum } := by
  simp (disch := decide) only [iWord, materialize, bits, BitVec.extractLsb, BitVec.extractLsb'_append_eq_of_le,
    BitVec.extractLsb'_append_eq_of_add_le]
  simp only [Nat.reduceSub, Nat.reduceAdd, BitVec.extractLsb'_eq_self]

/-- The type immediate is the low ten bits of the I word's immediate, and the length stands at rs1 (R325). -/
theorem materialize_vsetivli (f2 : BitVec 2) (zimm : BitVec 10) :
    materialize .vsetivli (iWord (f2 ++ zimm) rs1 f3 rd op) x =
      { rd, imm := zextImm rs1, vzimm := zimm.setWidth 11 } := by
  simp (disch := decide) only [iWord, materialize, bits, BitVec.extractLsb, BitVec.extractLsb'_append_eq_of_le,
    BitVec.extractLsb'_append_eq_of_add_le]
  simp only [Nat.reduceSub, Nat.reduceAdd, BitVec.extractLsb'_eq_self]

end

/-! ### Pseudo-opcodes of these words -/

/-- A sign-extended field is 0 where the field is. -/
theorem sextImm_eq_zero_iff {n : Nat} (hn : n ≤ 32) (v : BitVec n) : sextImm v = 0 ↔ v = 0 := by
  rw [sextImm, ← BitVec.toInt_inj, BitVec.toInt_signExtend_of_le hn, ← BitVec.toInt_inj]
  simp

/-- The lifter's name for an opcode: that of the first rule that holds, or the opcode (R211). -/
theorem lifted_eq_foldr (i : Instr) (o : Operands) :
    i.lifted o = i.descriptor.pseudo.foldr (fun p name => if p.holds o = true then p.op else name) i := by
  rw [Instr.lifted]
  generalize i.descriptor.pseudo = rules
  induction rules with
  | nil => rfl
  | cons p rules ih =>
    rw [List.find?_cons, List.foldr_cons, ← ih]
    cases p.holds o <;> rfl

/-- A rule holds where its constraints hold one by one (48_pseudo.md). -/
theorem holds_iff (o : Operands) (p : PseudoRule) : p.holds o = true ↔ ∀ c ∈ p.constraints, c.holds o = true :=
  List.all_eq_true

/-- The names of `addi`, in the order of its list (R8000 to R8002). -/
theorem lifted_addi (o : Operands) : Instr.lifted .addi o =
    if o.rd = 0 ∧ o.rs1 = 0 ∧ o.imm = 0 then .nop else if o.imm = 0 then .mv else if o.rs1 = 0 then .li
    else .addi := by
  have list : (Instr.descriptor .addi).pseudo =
    [⟨.nop, [.rdIs 0, .rs1Is 0, .immIs 0]⟩, ⟨.mv, [.immIs 0]⟩, ⟨.li, [.rs1Is 0]⟩] := rfl
  rw [lifted_eq_foldr, list]
  simp [holds_iff, Constraint.holds]

/-- The names of `jalr`, in the order of its list (R8019 to R8021). -/
theorem lifted_jalr (o : Operands) : Instr.lifted .jalr o =
    if o.rd = 0 ∧ o.rs1 = 1 ∧ o.imm = 0 then .ret else if o.rd = 0 ∧ o.imm = 0 then .jr
    else if o.rd = 1 ∧ o.imm = 0 then .jalrP else .jalr := by
  have list : (Instr.descriptor .jalr).pseudo =
    [⟨.ret, [.rdIs 0, .rs1Is 1, .immIs 0]⟩, ⟨.jr, [.rdIs 0, .immIs 0]⟩, ⟨.jalrP, [.rdIs 1, .immIs 0]⟩] := rfl
  rw [lifted_eq_foldr, list]
  simp [holds_iff, Constraint.holds]

/-- The names of `csrrc` (R8037). -/
theorem lifted_csrrc (o : Operands) : Instr.lifted .csrrc o = if o.rd = 0 then .csrc else .csrrc := by
  have list : (Instr.descriptor .csrrc).pseudo = [⟨.csrc, [.rdIs 0]⟩] := rfl
  rw [lifted_eq_foldr, list]
  simp [holds_iff, Constraint.holds]

/-- The branch of each code of funct3, but for the two that have none (R1004 to R1009). -/
def branchOp (f3 : BitVec 3) : Instr :=
  if f3 = 0 then .beq else if f3 = 1 then .bne else if f3 = 4 then .blt else if f3 = 5 then .bge
  else if f3 = 6 then .bltu else .bgeu

/-- The lists of the branches (R8011 to R8016). -/
theorem pseudo_branchOp (f3 : BitVec 3) : (branchOp f3).descriptor.pseudo =
    if f3 = 0 then [⟨.beqz, [.rs2Is 0]⟩] else if f3 = 1 then [⟨.bnez, [.rs2Is 0]⟩]
    else if f3 = 4 then [⟨.bltz, [.rs2Is 0]⟩, ⟨.bgtz, [.rs1Is 0]⟩]
    else if f3 = 5 then [⟨.blez, [.rs1Is 0]⟩, ⟨.bgez, [.rs2Is 0]⟩] else [] := by
  revert f3
  decide

/-- The names of the branches, in the order of their lists (R8011 to R8016). -/
theorem lifted_branchOp (f3 : BitVec 3) (o : Operands) : (branchOp f3).lifted o =
    if f3 = 0 then (if o.rs2 = 0 then .beqz else .beq)
    else if f3 = 1 then (if o.rs2 = 0 then .bnez else .bne)
    else if f3 = 4 then (if o.rs2 = 0 then .bltz else if o.rs1 = 0 then .bgtz else .blt)
    else if f3 = 5 then (if o.rs1 = 0 then .blez else if o.rs2 = 0 then .bgez else .bge)
    else if f3 = 6 then .bltu else .bgeu := by
  rw [lifted_eq_foldr, pseudo_branchOp, branchOp]
  split_ifs <;> simp_all [holds_iff, Constraint.holds]

end Sys2Proof

namespace Sys2Proof.Machine

/-! ### The step at a row's words -/

/-- The step at a matching row of an enabled vendor tree, where no OPEN row is in its way. -/
theorem stepGives_of_vendorRow {s : State} {c : Catalog} {r : Row} {o : Operands} (h : s.Candidate (.row c r))
    (hvr : s.vendorRows = []) (hc : c ≠ .base) (h32 : r.nbits = 32) (ho : materialize r.op.codec s.inst s.xlen = o) :
    StepGives s { o with len := 4, catalog := c, op := .std r.op, codec := r.op.codec } := by
  subst ho
  obtain ⟨hcat, hwidth, hlen, -⟩ := row_of_candidate h
  have four : s.instLen = 4 := by omega
  have no_list : r.op.descriptor.pseudo = [] := by
    rw [List.eq_nil_iff_forall_not_mem]
    intro p hp
    obtain ⟨hbase, -⟩ := pseudo_coherent hp
    exact hc (hcat.trans hbase)
  have gives := stepGives_decodedRecord s
  rw [decode_of_dispatch_row (dispatch_of_candidate h hvr), if_pos h32, decodedRecord_lifted, decodedRecord,
    expand_of_length_four rfl (hlen.trans four), lift_of_no_list fun _ hop => by cases hop; exact no_list,
    State.materialized, four, ← hcat] at gives
  exact gives

/-- A word with a row's pattern matches the row where XLEN and the flag are the row's and the row admits what its codec
reads (R203). -/
theorem matchesWord_of_pattern {r : Row} (hr : r ∈ allRows) {w : Inst} (hw : w &&& r.mask = r.value) {x : Xlen}
    (hx : x ∈ r.xlens) {cfg : Cfg} (hflag : flagHolds cfg r.flag = true) {o : Operands}
    (ho : materialize r.op.codec w x = o) (hadmits : rowAdmits x cfg r.op o = true) {len : Nat}
    (hlen : r.nbits = 8 * len) : r.matchesWord w len x cfg = true := by
  refine Row.matchesWord_iff.mpr ⟨hw, hlen, hx, hflag, fun e he => ?_⟩
  rw [Bool.eq_false_iff]
  intro hit
  have carved := List.all_eq_true.mp (List.all_eq_true.mp allRows_carves r hr) e he
  rw [← ho, rowAdmits_of_hits carved hit] at hadmits
  cases hadmits

/-- The step at a 32-bit word with the pattern of a row of the base tree. -/
theorem stepGives_of_pattern32 {s : State} {r : Row} {w : Inst} {o : Operands} (h : s.presents32 w) (hr : r ∈ baseTree)
    (hw : w &&& r.mask = r.value) (h32 : r.nbits = 32) (hx : s.xlen ∈ r.xlens)
    (hflag : flagHolds s.cfg r.flag = true) (ho : materialize r.op.codec w s.xlen = o)
    (hadmits : rowAdmits s.xlen s.cfg r.op o = true) :
    StepGives s { o with len := 4, catalog := .base, op := .std (r.op.lifted o), codec := r.op.codec } := by
  have hr' := mem_allRows_of_baseTree hr
  have width := fetchLen_of_pattern hr' hw
  obtain ⟨hlen, hinst⟩ := inst_of_presents32 h (by omega)
  refine stepGives_of_matchesBase ⟨hr, ?_⟩ h32 (hinst ▸ ho)
  rw [hinst, hlen]
  exact matchesWord_of_pattern hr' hw hx hflag ho hadmits h32

/-- The step at a 32-bit word with the pattern of a row of the base tree that holds at every XLEN and carves nothing
out. -/
theorem stepGives_of_plain_row {s : State} {i : Instr} {c : Codec} {m v w : Inst} {o : Operands} (h : s.presents32 w)
    (hr : (⟨i, 32, m, v, xAll, none, []⟩ : Row) ∈ baseTree) (hw : w &&& m = v) (hc : i.codec = c)
    (ho : materialize c w s.xlen = o) :
    StepGives s { o with len := 4, catalog := .base, op := .std (i.lifted o), codec := c } := by
  subst hc
  obtain ⟨matched, hinst⟩ := matchesBase_of_presents32 h hr hw ⟨rfl, rfl, rfl, rfl⟩
  exact stepGives_of_matchesBase matched rfl (hinst ▸ ho)

/-- The step at a word of a sub-pattern that every row of the enabled trees is apart from (R205). -/
theorem stepGives_of_apart {s : State} {e : Excl} {len : Nat} (hlen : s.instLen = len)
    (hit : e.hits s.inst s.xlen s.cfg = true) (hopen : s.vendorRows = [] ∨ len ≠ 4)
    (hapart : ∀ d ∈ dispatchTable, flagHolds s.cfg d.guard = true → ∀ r ∈ d.tree.rows,
      r.apart (e.asRow (8 * len)) = true) :
    StepGives s { len := len } := by
  subst hlen
  refine stepGives_of_no_candidate ?_
  rintro (⟨c, r⟩ | ⟨c, v⟩) ⟨d, hd, hguard, -, hrow, hv⟩
  · exact Row.not_both_of_apart (hapart d hd hguard r hrow) hv (Excl.asRow_matches hit _)
  · obtain ⟨hmem, hmatch⟩ := hv
    rcases hopen with hnone | hlen
    · rw [hnone] at hmem
      cases hmem
    · exact hlen (len_of_vendorRow_matches hmatch)

/-- The rows of each file of the spec are rows of the base tree (R111). -/
theorem mem_baseTree_of_file (parts : List Part) {r : Row} (hr : r ∈ parts.flatMap Part.rows) (hparts : parts ∈
    [partsInteger, partsFloat, partsBitmanip, partsCompressed, partsVectorArith, partsVectorLdst]) : r ∈ baseTree := by
  rw [baseTree, baseParts]
  simp only [List.flatMap_append, List.mem_append]
  simp only [List.mem_cons, List.not_mem_nil, or_false] at hparts
  rcases hparts with rfl | rfl | rfl | rfl | rfl | rfl <;> simp [hr]

/-! ### The statements on 32-bit words -/

/-- Settles O39: the word has the pattern of the row of addi, and the lifter tries nop, mv and li in this order. -/
theorem addiDecodes : Obligations.AddiDecodes := by
  intro s imm rs1 rd h
  change s.presents32 (iWord imm rs1 0 rd 0b0010011) at h
  obtain ⟨fields, -⟩ := materialize_iWord rs1 0 rd 0b0010011 s.xlen imm
  have gives := stepGives_of_plain_row (i := .addi) (m := 0x0000707f) (v := 0x00000013) h
    (mem_baseTree_of_file partsInteger (by decide) (by simp)) (iWord_and_opcode ..) rfl fields
  rw [lifted_addi] at gives
  simp (disch := decide) only [sextImm_eq_zero_iff] at gives
  exact gives

/-- Settles O40: the word has the pattern of the row of jalr, and the lifter tries ret, jr and jalr.p in this order. -/
theorem jalrLiftsInOrder : Obligations.JalrLiftsInOrder := by
  intro s imm rs1 rd h
  change s.presents32 (iWord imm rs1 0 rd 0b1100111) at h
  obtain ⟨fields, -⟩ := materialize_iWord rs1 0 rd 0b1100111 s.xlen imm
  have gives := stepGives_of_plain_row (i := .jalr) (m := 0x0000707f) (v := 0x00000067) h
    (mem_baseTree_of_file partsInteger (by decide) (by simp)) (iWord_and_opcode ..) rfl fields
  rw [lifted_jalr] at gives
  simp (disch := decide) only [sextImm_eq_zero_iff] at gives
  exact gives

/-- Settles O43: the word has the pattern of the row of csrrc, and its codec reads the twelve bits as they are. -/
theorem csrClearTakesAnyNumber : Obligations.CsrClearTakesAnyNumber := by
  intro s csr rs1 rd h
  change s.presents32 (iWord csr rs1 0b011 rd 0b1110011) at h
  obtain ⟨-, fields⟩ := materialize_iWord rs1 0b011 rd 0b1110011 s.xlen csr
  have gives := stepGives_of_plain_row (i := .csrrc) (m := 0x0000707f) (v := 0x00003073) h
    (mem_baseTree_of_file partsInteger (by decide) (by simp)) (iWord_and_opcode ..) rfl fields
  rwa [lifted_csrrc] at gives

/-- The rows of the branches (R1004 to R1009). -/
theorem branch_rows : ∀ f3 : BitVec 3, ¬(f3 = 2 ∨ f3 = 3) → (branchOp f3).codec = .b ∧
    (⟨branchOp f3, 32, 0x0000707f, rWord 0 0 0 f3 0 0b1100011, xAll, none, []⟩ : Row) ∈
      partsInteger.flatMap Part.rows := by
  decide

/-- Every row is apart from the words of the branch major opcode with funct3 010 or 011. -/
theorem allRows_apart_branch : allRows.all (·.apart (Excl.asRow ⟨0x0000607f, 0x00002063, xAll, none⟩ 32)) = true :=
  allRows_all (by decide)

/-- Settles O41: six codes of funct3 have a row each, whose opcode the lifter renames where a register is 0, and no row
holds a word with another code. -/
theorem branchesDecode : Obligations.BranchesDecode := by
  intro s b12 hi rs2 rs1 f3 lo b11 h hvr
  have word : b12 ++ hi ++ rs2 ++ rs1 ++ f3 ++ lo ++ b11 ++ 0b1100011#7 =
    rWord (b12 ++ hi) rs2 rs1 f3 (lo ++ b11) 0b1100011 := congrArg (· ++ 0b1100011#7) (BitVec.append_assoc ..)
  rw [word] at h
  by_cases hreserved : f3 = 2 ∨ f3 = 3
  · rw [if_pos hreserved]
    obtain ⟨hlen, hinst⟩ := inst_of_presents32 h ((fetchLen_rWord ..).trans (by decide))
    refine stepGives_of_apart (e := ⟨0x0000607f, 0x00002063, xAll, none⟩) hlen
      (Excl.hits_iff.mpr ⟨mem_xAll _, rfl, ?_⟩) (.inl hvr)
      fun d hd _ r hr => List.all_eq_true.mp allRows_apart_branch r (mem_allRows hd hr)
    have code : f3 &&& 0b110 = 0b010 := by rcases hreserved with rfl | rfl <;> decide
    rw [hinst]
    exact rWord_and_mask (m7 := 0#7) (m2 := 0#5) BitVec.and_zero BitVec.and_zero code rs1 (lo ++ b11) 0b1100011
  · rw [if_neg hreserved]
    obtain ⟨hcodec, hrow⟩ := branch_rows f3 hreserved
    have gives := stepGives_of_plain_row h (mem_baseTree_of_file _ hrow (by simp)) (rWord_and_opcode ..) hcodec
      (materialize_b ..)
    rw [lifted_branchOp] at gives
    exact gives

/-- Every row is apart from the word of sd at XLEN 32 (R114). -/
theorem allRows_apart_sd : allRows.all (·.apart (Excl.asRow ⟨0x0000707f, 0x00003023, x32, none⟩ 32)) = true :=
  allRows_all (by decide)

/-- Settles O42: the word has the pattern of the row of sd, which XLEN 32 does not have, and no other row holds it. -/
theorem storeDoubleNeedsXlen64 : Obligations.StoreDoubleNeedsXlen64 := by
  intro s hi rs2 rs1 lo h hvr
  change s.presents32 (rWord hi rs2 rs1 0b011 lo 0b0100011) at h
  split_ifs with hx
  · obtain ⟨hlen, hinst⟩ := inst_of_presents32 h ((fetchLen_rWord ..).trans (by decide))
    refine stepGives_of_apart (e := ⟨0x0000707f, 0x00003023, x32, none⟩) hlen
      (Excl.hits_iff.mpr ⟨by rw [hx]; decide, rfl, ?_⟩) (.inl hvr)
      fun d hd _ r hr => List.all_eq_true.mp allRows_apart_sd r (mem_allRows hd hr)
    rw [hinst]
    exact rWord_and_opcode ..
  · have wide : s.xlen ∈ x64x128 := by
      cases hxlen : s.xlen
      case x32 => exact absurd hxlen hx
      all_goals decide
    obtain ⟨-, -, fields⟩ := materialize_rWord hi rs2 rs1 0b011 lo 0b0100011 s.xlen
    exact stepGives_of_pattern32 (r := ⟨.sd, 32, 0x0000707f#32, 0x00003023#32, x64x128, none, []⟩) h
      (mem_baseTree_of_file partsInteger (by decide) (by simp)) (rWord_and_opcode ..) rfl wide rfl fields rfl

/-- The opcode of fadd in each format (R312, 42_float.md). -/
def faddOp (fmt : BitVec 2) : Instr :=
  if fmt = 0 then .faddS else if fmt = 1 then .faddD else if fmt = 2 then .faddH else .faddQ

/-- The rows of fadd, one for each format; no lifter renames them. -/
theorem fadd_rows : ∀ fmt : BitVec 2, (faddOp fmt).codec = .r_m ∧ (faddOp fmt).descriptor.pseudo = [] ∧
    (⟨faddOp fmt, 32, 0xfe00007f, rWord (0b00000#5 ++ fmt) 0 0 0 0 0b1010011, xAll, none, []⟩ : Row) ∈
      partsFloat.flatMap Part.rows := by
  decide

/-- Settles O47: each format has a row, whose mask leaves rm out, and its codec reads rm. -/
theorem floatAddTakesAnyRoundingMode : Obligations.FloatAddTakesAnyRoundingMode := by
  intro s fmt rs2 rs1 rm rd h
  change s.presents32 (rWord (0b00000#5 ++ fmt) rs2 rs1 rm rd 0b1010011) at h
  have pattern := rWord_and_mask (f7 := 0b00000#5 ++ fmt) (rs2 := rs2) (m2 := 0#5) (f3 := rm) (m3 := 0#3)
    BitVec.and_allOnes BitVec.and_zero BitVec.and_zero rs1 rd 0b1010011
  obtain ⟨hcodec, hlist, hrow⟩ := fadd_rows fmt
  obtain ⟨-, fields, -⟩ := materialize_rWord (0b00000#5 ++ fmt) rs2 rs1 rm rd 0b1010011 s.xlen
  have gives := stepGives_of_plain_row h (mem_baseTree_of_file _ hrow (by simp)) pattern hcodec fields
  rwa [lifted_eq_foldr, hlist] at gives

/-- Settles O48: the word has the pattern of the row of fmadd.d. -/
theorem fusedMultiplyAddDecodes : Obligations.FusedMultiplyAddDecodes := by
  intro s rs3 rs2 rs1 rm rd h
  change s.presents32 (rWord (rs3 ++ 0b01#2) rs2 rs1 rm rd 0b1000011) at h
  have format : (rs3 ++ 0b01#2) &&& (0#5 ++ 0b11#2) = 0#5 ++ 0b01#2 := append_and_append_eq BitVec.and_zero rfl
  have pattern := rWord_and_mask (rs2 := rs2) (m2 := 0#5) (f3 := rm) (m3 := 0#3) format BitVec.and_zero BitVec.and_zero
    rs1 rd 0b1000011
  exact stepGives_of_plain_row (i := .fmaddD) (m := 0x0600007f) (v := 0x02000043) h
    (mem_baseTree_of_file partsFloat (by decide) (by simp)) pattern rfl (materialize_r4 ..)

/-- The words of aes64ks1i with this round number, as a sub-pattern. -/
def roundExcl (rnum : BitVec 4) : Excl := ⟨0xfff0707f, iWord (0b00110001#8 ++ rnum) 0 0b001 0 0b0010011, xAll, none⟩

/-- Every row is apart from the words of aes64ks1i at XLEN 32 and 128 (R114), and with a round number above 10
(R115). -/
theorem allRows_apart_aes :
    allRows.all (·.apart (Excl.asRow ⟨0xff00707f, 0x31001013, [.x32, .x128], none⟩ 32)) = true ∧
      ∀ rnum : BitVec 4, ¬rnum.toNat ≤ 10 → allRows.all (·.apart ((roundExcl rnum).asRow 32)) = true := by
  refine ⟨allRows_all (by decide), fun rnum hnum => allRows_all ?_⟩
  revert rnum
  decide

/-- Settles O49: the row of aes64ks1i has XLEN 64 alone and carves the round numbers above 10 out, and no other row
holds the word. -/
theorem aesRoundNumbers : Obligations.AesRoundNumbers := by
  intro s rnum rs1 rd h hvr
  change s.presents32 (iWord (0b00110001#8 ++ rnum) rs1 0b001 rd 0b0010011) at h
  have funct : (0b00110001#8 ++ rnum) &&& (BitVec.allOnes 8 ++ 0#4) = 0b00110001#8 ++ 0#4 :=
    append_and_append_eq BitVec.and_allOnes BitVec.and_zero
  have unnumbered := iWord_and_mask (f3 := 0b001) funct BitVec.and_allOnes rs1 rd 0b0010011
  have numbered := iWord_and_mask (imm := 0b00110001#8 ++ rnum) (f3 := 0b001) BitVec.and_allOnes BitVec.and_allOnes
    rs1 rd 0b0010011
  obtain ⟨hlen, hinst⟩ := inst_of_presents32 h ((fetchLen_iWord ..).trans (by decide))
  obtain ⟨apart_width, apart_number⟩ := allRows_apart_aes
  by_cases hx : s.xlen = .x64
  · by_cases hnum : rnum.toNat ≤ 10
    · rw [if_pos ⟨hx, hnum⟩]
      exact stepGives_of_pattern32 (r := ⟨.aes64ks1i, 32, 0xff00707f, 0x31001013, x64, none,
        [roundExcl 11, roundExcl 12, roundExcl 13, roundExcl 14, roundExcl 15]⟩) h
        (mem_baseTree_of_file partsBitmanip (by decide) (by simp)) unnumbered rfl (by rw [hx]; decide) rfl
        (materialize_rnum ..) (decide_eq_true hnum)
    · rw [if_neg fun both => hnum both.2]
      refine stepGives_of_apart (e := roundExcl rnum) hlen (Excl.hits_iff.mpr ⟨mem_xAll _, rfl, ?_⟩) (.inl hvr)
        fun d hd _ r hr => List.all_eq_true.mp (apart_number rnum hnum) r (mem_allRows hd hr)
      rw [hinst]
      exact numbered
  · rw [if_neg fun both => hx both.1]
    refine stepGives_of_apart (e := ⟨0xff00707f, 0x31001013, [.x32, .x128], none⟩) hlen
      (Excl.hits_iff.mpr ⟨?_, rfl, ?_⟩) (.inl hvr)
      fun d hd _ r hr => List.all_eq_true.mp apart_width r (mem_allRows hd hr)
    · cases hxlen : s.xlen
      case x64 => exact absurd hxlen hx
      all_goals decide
    · rw [hinst]
      exact unnumbered

/-- Settles O52: the word has the pattern of the row of vadd.vi, whose codec extends the sign. -/
theorem vectorImmediateIsSignedForAdd : Obligations.VectorImmediateIsSignedForAdd := by
  intro s vm vs2 simm vd h
  change s.presents32 (rWord (0b000000#6 ++ vm) vs2 simm 0b011 vd 0b1010111) at h
  have funct : (0b000000#6 ++ vm) &&& (BitVec.allOnes 6 ++ 0#1) = 0b000000#6 ++ 0#1 :=
    append_and_append_eq BitVec.and_allOnes BitVec.and_zero
  have pattern := rWord_and_mask (rs2 := vs2) (m2 := 0#5) (f3 := 0b011) funct BitVec.and_zero BitVec.and_allOnes
    simm vd 0b1010111
  obtain ⟨fields, -, -⟩ := materialize_vm vs2 simm 0b011 vd 0b1010111 s.xlen 0b000000 vm
  exact stepGives_of_plain_row (i := .vaddVi) (m := 0xfc00707f) (v := 0x00003057) h
    (mem_baseTree_of_file partsVectorArith (by decide) (by simp)) pattern rfl fields

/-- Settles O53: the word has the pattern of the row of vsll.vi, whose codec extends with zeros. -/
theorem vectorImmediateIsUnsignedForShift : Obligations.VectorImmediateIsUnsignedForShift := by
  intro s vm vs2 uimm vd h
  change s.presents32 (rWord (0b100101#6 ++ vm) vs2 uimm 0b011 vd 0b1010111) at h
  have funct : (0b100101#6 ++ vm) &&& (BitVec.allOnes 6 ++ 0#1) = 0b100101#6 ++ 0#1 :=
    append_and_append_eq BitVec.and_allOnes BitVec.and_zero
  have pattern := rWord_and_mask (rs2 := vs2) (m2 := 0#5) (f3 := 0b011) funct BitVec.and_zero BitVec.and_allOnes
    uimm vd 0b1010111
  obtain ⟨-, fields, -⟩ := materialize_vm vs2 uimm 0b011 vd 0b1010111 s.xlen 0b100101 vm
  exact stepGives_of_plain_row (i := .vsllVi) (m := 0xfc00707f) (v := 0x94003057) h
    (mem_baseTree_of_file partsVectorArith (by decide) (by simp)) pattern rfl fields

/-- Settles O54: the word has the pattern of the row of vsetivli, whose codec reads both immediates. -/
theorem vsetivliDecodes : Obligations.VsetivliDecodes := by
  intro s zimm uimm rd h
  change s.presents32 (iWord (0b11#2 ++ zimm) uimm 0b111 rd 0b1010111) at h
  have funct : (0b11#2 ++ zimm) &&& (BitVec.allOnes 2 ++ 0#10) = 0b11#2 ++ 0#10 :=
    append_and_append_eq BitVec.and_allOnes BitVec.and_zero
  have pattern := iWord_and_mask (f3 := 0b111) funct BitVec.and_allOnes uimm rd 0b1010111
  exact stepGives_of_plain_row (i := .vsetivli) (m := 0xc000707f) (v := 0xc0007057) h
    (mem_baseTree_of_file partsVectorArith (by decide) (by simp)) pattern rfl (materialize_vsetivli ..)

/-- The unit-stride 32-bit load of each segment count (R102, 46_vector_ldst.md). -/
def segmentLoadOp (nf : BitVec 3) : Instr :=
  if nf = 0 then .vle32V else if nf = 1 then .vlseg2e32V else if nf = 2 then .vlseg3e32V
  else if nf = 3 then .vlseg4e32V else if nf = 4 then .vlseg5e32V else if nf = 5 then .vlseg6e32V
  else if nf = 6 then .vlseg7e32V else .vlseg8e32V

/-- The rows of these loads, one for each segment count, with mew 0; no lifter renames them. -/
theorem segmentLoad_rows : ∀ nf : BitVec 3,
    (segmentLoadOp nf).codec = .v_ldst_u ∧ (segmentLoadOp nf).descriptor.pseudo = [] ∧
    (⟨segmentLoadOp nf, 32, 0xfdf0707f, rWord (nf ++ 0#1 ++ 0b00#2 ++ 0#1) 0 0 0b110 0 0b0000111, xAll, none, []⟩ :
      Row) ∈ partsVectorLdst.flatMap Part.rows := by
  decide

/-- Every row is apart from the words of these loads with mew 1 (R121). -/
theorem allRows_apart_mew : allRows.all (·.apart (Excl.asRow ⟨0x1df0707f, 0x10006007, xAll, none⟩ 32)) = true :=
  allRows_all (by decide)

/-- Settles O55: with mew 0 each segment count has a row, and no row holds a word with mew 1. -/
theorem segmentLoadsByCount : Obligations.SegmentLoadsByCount := by
  intro s nf mew vm rs1 rd h hvr
  change s.presents32 (rWord (nf ++ mew ++ 0b00#2 ++ vm) 0 rs1 0b110 rd 0b0000111) at h
  have funct {m v : BitVec 3} (hm : nf &&& m = v) : (nf ++ mew ++ 0b00#2 ++ vm) &&& (m ++ 1#1 ++ 0b11#2 ++ 0#1) =
      v ++ mew ++ 0b00#2 ++ 0#1 :=
    append_and_append_eq (append_and_append_eq (append_and_append_eq hm BitVec.and_allOnes) rfl) BitVec.and_zero
  have pattern {m v : BitVec 3} (hm : nf &&& m = v) :=
    rWord_and_mask (rs2 := 0) (f3 := 0b110) (funct hm) BitVec.and_allOnes BitVec.and_allOnes rs1 rd 0b0000111
  rcases BitVec.eq_zero_or_eq_one mew with hmew | hmew <;> subst hmew
  · rw [if_neg (by decide)]
    obtain ⟨hcodec, hlist, hrow⟩ := segmentLoad_rows nf
    obtain ⟨-, -, fields⟩ := materialize_vm 0 rs1 0b110 rd 0b0000111 s.xlen (nf ++ 0#1 ++ 0b00#2) vm
    have gives := stepGives_of_plain_row h (mem_baseTree_of_file _ hrow (by simp)) (pattern BitVec.and_allOnes) hcodec
      fields
    rwa [lifted_eq_foldr, hlist] at gives
  · rw [if_pos (by decide)]
    obtain ⟨hlen, hinst⟩ := inst_of_presents32 h ((fetchLen_rWord ..).trans (by decide))
    refine stepGives_of_apart (e := ⟨0x1df0707f, 0x10006007, xAll, none⟩) hlen
      (Excl.hits_iff.mpr ⟨mem_xAll _, rfl, ?_⟩) (.inl hvr)
      fun d hd _ r hr => List.all_eq_true.mp allRows_apart_mew r (mem_allRows hd hr)
    rw [hinst]
    exact pattern (m := 0#3) BitVec.and_zero

/-- The row of `vt.maskc` or `vt.maskcn`, by the low bit of funct3 (R7013, R7014). -/
def ventanaRow (n : BitVec 1) : Row :=
  ⟨if n = 0 then .vtMaskc else .vtMaskcn, 32, 0xfe00707f, rWord 0 0 0 (0b11#2 ++ n) 0 0b1111011, xAll, none, []⟩

/-- They are rows of the xventana tree, with codec `r`. -/
theorem ventanaRow_mem : ∀ n : BitVec 1,
    ventanaRow n ∈ (Tree.given [partXventanacondops]).rows ∧ (ventanaRow n).op.codec = .r := by
  decide

/-- The rows of a tree are those of its parts. -/
theorem treeRows_eq (t : Tree) : t.rows = t.parts.flatMap Part.rows := by
  cases t <;> rfl

/-- Every row of the other trees is apart from the words of the xventana rows (R124). -/
theorem rows_apart_ventana : dispatchTable.all (fun d => d.guard == some .xventanacondops || d.tree.parts.all
    (fun p => p.rows.all (·.apart (Excl.asRow ⟨0xfe00607f, 0x0000607b, xAll, none⟩ 32)))) = true := by
  decide

/-- Settles O58: the word has the pattern of a row of the last entry's tree, which its flag guards, and no row of
another tree holds it. -/
theorem ventanaMaskDecodes : Obligations.VentanaMaskDecodes := by
  intro s rs2 rs1 n rd h hvr
  have word : 0b0000000#7 ++ rs2 ++ rs1 ++ 0b11#2 ++ n ++ rd ++ 0b1111011#7 =
      rWord 0 rs2 rs1 (0b11#2 ++ n) rd 0b1111011 :=
    congrArg (· ++ rd ++ 0b1111011#7) (BitVec.append_assoc ..)
  rw [word] at h
  obtain ⟨hlen, hinst⟩ := inst_of_presents32 h ((fetchLen_rWord ..).trans (by decide))
  have pattern {m v : BitVec 1} (hm : n &&& m = v) := rWord_and_mask (f7 := 0) (rs2 := rs2) (m2 := 0#5)
    BitVec.and_allOnes BitVec.and_zero (append_and_append_eq (BitVec.and_self (x := 0b11#2)) hm) rs1 rd 0b1111011
  by_cases hflag : s.cfg.xventanacondops = true
  · rw [if_pos hflag]
    obtain ⟨fields, -⟩ := materialize_rWord 0 rs2 rs1 (0b11#2 ++ n) rd 0b1111011 s.xlen
    have hd : (⟨some .xventanacondops, .xventana, .given [partXventanacondops]⟩ : DispatchEntry) ∈ dispatchTable := by
      decide
    obtain ⟨hr, hcodec⟩ := ventanaRow_mem n
    have matched : (ventanaRow n).matchesWord s.inst s.instLen s.xlen s.cfg = true := by
      rw [hinst, hlen]
      exact Row.matchesWord_iff.mpr ⟨pattern BitVec.and_allOnes, rfl, mem_xAll _, rfl, fun _ he => nomatch he⟩
    have gives := stepGives_of_vendorRow ⟨_, hd, hflag, rfl, hr, matched⟩ hvr (by decide) rfl
      (hinst.symm ▸ hcodec.symm ▸ fields)
    rwa [hcodec] at gives
  · rw [if_neg hflag]
    refine stepGives_of_apart (e := ⟨0xfe00607f, 0x0000607b, xAll, none⟩) hlen
      (Excl.hits_iff.mpr ⟨mem_xAll _, rfl, ?_⟩) (.inl hvr) fun d hd hguard r hr => ?_
    · rw [hinst]
      exact pattern (m := 0#1) BitVec.and_zero
    · have checked := List.all_eq_true.mp rows_apart_ventana d hd
      rw [Bool.or_eq_true, beq_iff_eq, ← List.all_flatMap, ← treeRows_eq] at checked
      refine List.all_eq_true.mp (checked.resolve_left fun hv => hflag ?_) r hr
      rwa [hv] at hguard

/-! ### The step at 16-bit words -/

/-- The step at a matching 16-bit row of the base tree that has a target and no nonzero-immediate flag (R208). -/
theorem stepGives_of_target {s : State} {r : Row} {t : Instr} {o : Operands} (h : s.MatchesBase r) (h16 : r.nbits = 16)
    (ht : r.op.target s.xlen = some t) (hflag : r.op.descriptor.nonzeroImm = false) (hlist : t.descriptor.pseudo = [])
    (ho : materialize r.op.codec s.inst s.xlen = o) :
    StepGives s { o with len := 2, catalog := .base, op := .std t, codec := t.codec } := by
  subst ho
  have found := dispatch_of_matchesBase h
  obtain ⟨hbase, hwidth, hlen, -⟩ := row_of_candidate (candidate_of_dispatch found)
  have two : s.instLen = 2 := by omega
  have expanded : expand s.xlen (s.materialized .base (.std r.op) r.op.codec)
      = { s.materialized .base (.std r.op) r.op.codec with op := .std t, codec := t.codec } := by
    simp [expand, hlen, two, ht, hflag]
  have gives := stepGives_decodedRecord s
  rw [decode_of_dispatch_row found, if_neg (by omega), decodedRecord, ← hbase, expanded,
    lift_of_no_list fun _ hop => by cases hop; exact hlist, State.materialized, two] at gives
  exact gives

/-- The step at a matching 16-bit row of the base tree that has no target (R208). -/
theorem stepGives_of_no_target {s : State} {r : Row} {o : Operands} (h : s.MatchesBase r) (h16 : r.nbits = 16)
    (ht : r.op.target s.xlen = none) (ho : materialize r.op.codec s.inst s.xlen = o) :
    StepGives s { o with len := 2, catalog := .base, op := .std r.op, codec := r.op.codec } := by
  subst ho
  have found := dispatch_of_matchesBase h
  obtain ⟨hbase, hwidth, hlen, -⟩ := row_of_candidate (candidate_of_dispatch found)
  have two : s.instLen = 2 := by omega
  have no_list : r.op.descriptor.pseudo = [] := by
    rw [List.eq_nil_iff_forall_not_mem]
    intro p hp
    obtain ⟨-, hfour, -⟩ := pseudo_coherent hp
    omega
  have unexpanded : expand s.xlen (s.materialized .base (.std r.op) r.op.codec)
      = s.materialized .base (.std r.op) r.op.codec := by
    simp [expand, hlen, two, ht]
  have gives := stepGives_decodedRecord s
  rw [decode_of_dispatch_row found, if_neg (by omega), decodedRecord, ← hbase, unexpanded,
    lift_of_no_list fun _ hop => by cases hop; exact no_list, State.materialized, two] at gives
  exact gives

/-- A unit of a 16-bit instruction that is next in the stream is the instruction. -/
theorem inst_of_unit {s : State} {w : CodeUnit} (h : s.presents16 w) (hw : fetchLen w = 2) :
    s.instLen = 2 ∧ s.inst = w.setWidth 32 := by
  have two : s.instLen = 2 := by rw [instLen_eq, h, hw]
  exact ⟨two, (inst_of_len_two two).trans (congrArg _ h)⟩

/-- A 16-bit word with the pattern of a row of the base tree matches it. -/
theorem matchesBase_of_pattern16 {s : State} {r : Row} {w : CodeUnit} {o : Operands} (h : s.presents16 w)
    (hr : r ∈ baseTree) (hw : w.setWidth 32 &&& r.mask = r.value) (h16 : r.nbits = 16) (hx : s.xlen ∈ r.xlens)
    (hflag : flagHolds s.cfg r.flag = true) (ho : materialize r.op.codec (w.setWidth 32) s.xlen = o)
    (hadmits : rowAdmits s.xlen s.cfg r.op o = true) : s.MatchesBase r ∧ s.inst = w.setWidth 32 := by
  have hr' := mem_allRows_of_baseTree hr
  have width := fetchLen_of_pattern hr' hw
  rw [BitVec.extractLsb'_setWidth_of_le (by decide), BitVec.extractLsb'_eq_self] at width
  obtain ⟨two, hinst⟩ := inst_of_unit h (by omega)
  refine ⟨⟨hr, ?_⟩, hinst⟩
  rw [hinst, two]
  exact matchesWord_of_pattern hr' hw hx hflag ho hadmits h16

/-! ### The statements on 16-bit words -/

/-- The word of `c.flw` and `c.ld` (R4004, R4005). -/
def loadWord (hi rs1p : BitVec 3) (b65 : BitVec 2) (rdp : BitVec 3) : CodeUnit :=
  0b011#3 ++ hi ++ rs1p ++ b65 ++ rdp ++ 0b00#2

/-- The pattern of `c.flw` and `c.ld`. -/
theorem loadWord_pattern (hi rs1p : BitVec 3) (b65 : BitVec 2) (rdp : BitVec 3) :
    (loadWord hi rs1p b65 rdp).setWidth 32 &&& 0xe003 = 0x6000 := by
  have unit : loadWord hi rs1p b65 rdp &&& (BitVec.allOnes 3 ++ 0#3 ++ 0#3 ++ 0#2 ++ 0#3 ++ BitVec.allOnes 2) =
      loadWord 0 0 0 0 := by
    unfold loadWord
    repeat' apply append_and_append_eq
    all_goals simp
  exact BitVec.setWidth_and.symm.trans (congrArg (BitVec.setWidth 32) unit)

/-- A primed field names the register with 01 above it (R139). -/
theorem primed_eq_append (p : BitVec 3) : primed p = 0b01#2 ++ p := by
  revert p
  decide

/-- The codecs of `c.flw` and `c.ld` join the offset's bits in the orders of R107 (R335, R336). -/
theorem materialize_loadWord (hi rs1p : BitVec 3) (b6 b5 : BitVec 1) (rdp : BitVec 3) (x : Xlen) :
    materialize .cl_lw ((loadWord hi rs1p (b6 ++ b5) rdp).setWidth 32) x =
        { rd := 0b01#2 ++ rdp, rs1 := 0b01#2 ++ rs1p, imm := zextImm (b5 ++ hi ++ b6 ++ 0#2) } ∧
      materialize .cl_ld ((loadWord hi rs1p (b6 ++ b5) rdp).setWidth 32) x =
        { rd := 0b01#2 ++ rdp, rs1 := 0b01#2 ++ rs1p, imm := zextImm (b6 ++ b5 ++ hi ++ 0#3) } := by
  simp (disch := decide) only [loadWord, materialize, bits, BitVec.extractLsb, BitVec.extractLsb'_setWidth_of_le,
    BitVec.extractLsb'_append_eq_of_le, BitVec.extractLsb'_append_eq_of_add_le]
  simp only [Nat.reduceSub, Nat.reduceAdd, BitVec.extractLsb'_eq_self, primed_eq_append, and_self]

/-- Settles O50: at every XLEN one of the two rows is present, and the word has their pattern. -/
theorem compressedFlwOrLd : Obligations.CompressedFlwOrLd := by
  intro s hi rs1p b6 b5 rdp h
  have unit : 0b011#3 ++ hi ++ rs1p ++ b6 ++ b5 ++ rdp ++ 0b00#2 = loadWord hi rs1p (b6 ++ b5) rdp :=
    congrArg (· ++ rdp ++ 0b00#2) (BitVec.append_assoc ..)
  rw [unit] at h
  obtain ⟨word, double⟩ := materialize_loadWord hi rs1p b6 b5 rdp s.xlen
  have pattern := loadWord_pattern hi rs1p (b6 ++ b5) rdp
  split_ifs with hx
  · obtain ⟨matched, hinst⟩ := matchesBase_of_pattern16 (r := ⟨.cFlw, 16, 0xe003#32, 0x6000#32, x32, none, []⟩) h
      (mem_baseTree_of_file partsCompressed (by decide) (by simp)) pattern rfl (by rw [hx]; decide) rfl word rfl
    exact stepGives_of_target matched rfl (by rw [hx]; rfl) rfl rfl (hinst ▸ word)
  · have wide : s.xlen ∈ x64x128 ∧ Instr.target .cLd s.xlen = some .ld := by
      cases hxlen : s.xlen
      case x32 => exact absurd hxlen hx
      all_goals decide
    obtain ⟨present, target⟩ := wide
    obtain ⟨matched, hinst⟩ := matchesBase_of_pattern16 (r := ⟨.cLd, 16, 0xe003#32, 0x6000#32, x64x128, none, []⟩) h
      (mem_baseTree_of_file partsCompressed (by decide) (by simp)) pattern rfl present rfl double rfl
    exact stepGives_of_target matched rfl target rfl rfl (hinst ▸ double)

/-- The word of `cm.push` (R4058), which is one of `c.fsdsp` and `c.sqsp` too. -/
def pushWord (rlist : BitVec 4) (spimm : BitVec 2) : Inst :=
  (0b10111000#8 ++ rlist ++ spimm ++ 0b10#2 : CodeUnit).setWidth 32

/-- The unit of the word is an instruction of length 2. -/
theorem fetchLen_pushUnit : ∀ (rlist : BitVec 4) (spimm : BitVec 2),
    fetchLen (0b10111000#8 ++ rlist ++ spimm ++ 0b10#2) = 2 := by
  decide

/-- The word has the patterns of `cm.push`, `c.fsdsp` and `c.sqsp`. -/
theorem pushWord_pattern : ∀ (rlist : BitVec 4) (spimm : BitVec 2),
    pushWord rlist spimm &&& 0xff03 = 0xb802 ∧ pushWord rlist spimm &&& 0xe003 = 0xa002 := by
  decide

/-- The word by its fields. -/
theorem bits_pushWord : ∀ (rlist : BitVec 4) (spimm : BitVec 2),
    bits (pushWord rlist spimm) 7 4 = rlist ∧ bits (pushWord rlist spimm) 3 2 = spimm ∧
      bits (pushWord rlist spimm) 6 2 = rlist.extractLsb' 0 3 ++ spimm ∧
      bits (pushWord rlist spimm) 9 7 = 0b00#2 ++ rlist.extractLsb' 3 1 ∧
      bits (pushWord rlist spimm) 10 7 = 0b000#3 ++ rlist.extractLsb' 3 1 ∧
      bits (pushWord rlist spimm) 12 10 = 0b110 ∧ bits (pushWord rlist spimm) 12 11 = 0b11 := by
  decide

/-- The codecs of the three opcodes on the word (R351, R352, R367). -/
theorem materialize_pushWord (rlist : BitVec 4) (spimm : BitVec 2) (x : Xlen) :
    materialize .zcmp_push (pushWord rlist spimm) x =
        { rlist, imm := -BitVec.ofNat 32 (stackAdj rlist spimm x) } ∧
      materialize .css_sdsp (pushWord rlist spimm) x =
        { rs1 := 2, rs2 := rlist.extractLsb' 0 3 ++ spimm, imm := zextImm (rlist.extractLsb' 3 1 ++ 0b110#3 ++ 0#3) } ∧
      materialize .css_sqsp (pushWord rlist spimm) x =
        { rs1 := 2, rs2 := rlist.extractLsb' 0 3 ++ spimm,
          imm := zextImm (rlist.extractLsb' 3 1 ++ 0b11#2 ++ 0#4) } := by
  obtain ⟨h74, h32, h62, h97, h107, h1210, h1211⟩ := bits_pushWord rlist spimm
  simp only [materialize, h74, h32, h62, h97, h107, h1210, h1211, true_and]
  have offsets : ∀ high : BitVec 1, zextImm (0b00#2 ++ high ++ 0b110#3 ++ 0#3) = zextImm (high ++ 0b110#3 ++ 0#3) ∧
      zextImm (0b000#3 ++ high ++ 0b11#2 ++ 0#4) = zextImm (high ++ 0b11#2 ++ 0#4) := by
    decide
  obtain ⟨store, quad⟩ := offsets (rlist.extractLsb' 3 1)
  exact ⟨congrArg (Operands.mk _ _ _ _ · _ _ _ _ _ _ _ _ _ _ _ _) store,
    congrArg (Operands.mk _ _ _ _ · _ _ _ _ _ _ _ _ _ _ _ _) quad⟩

/-- Where zcmp is off, the carve-outs of `c.fsdsp` and `c.sqsp` leave the word in their rows (R116). -/
theorem outsideCarve_pushWord {cfg : Cfg} (h : cfg.zcmp = false) (rlist : BitVec 4) (rs2 : RegIdx) :
    outsideCarveFsdsp cfg { rs1 := 2, rs2, imm := zextImm (rlist.extractLsb' 3 1 ++ 0b110#3 ++ 0#3) } = true ∧
      outsideCarveSqsp cfg { rs1 := 2, rs2, imm := zextImm (rlist.extractLsb' 3 1 ++ 0b11#2 ++ 0#4) } = true := by
  simp only [outsideCarveFsdsp, outsideCarveSqsp, h, Bool.false_and, Bool.not_false, Bool.true_and]
  generalize rlist.extractLsb' 3 1 = high, cfg.zcmt = zcmt
  revert high zcmt
  decide

/-- The Zcmp and Zcmt areas carved out of `c.fsdsp` and `c.sqsp` (R116). -/
def storeCarve : List Excl :=
  [⟨0xf903, 0xb802, xAll, some .zcmp⟩, ⟨0xfc23, 0xac22, xAll, some .zcmp⟩, ⟨0xfc03, 0xa002, xAll, some .zcmt⟩]

/-- The words of `cm.push` with this list, under a flag, as a sub-pattern. -/
def listExcl (flag : Option Flag) (rlist : BitVec 4) : Excl := ⟨0xfff3, pushWord rlist 0, xAll, flag⟩

/-- A word of `cm.push` is in the sub-pattern of its list, under a flag that is 1. -/
theorem listExcl_hits {cfg : Cfg} {flag : Option Flag} (h : flagHolds cfg flag = true) (rlist : BitVec 4)
    (spimm : BitVec 2) (x : Xlen) : (listExcl flag rlist).hits (pushWord rlist spimm) x cfg = true := by
  have pattern : ∀ (rlist : BitVec 4) (spimm : BitVec 2), pushWord rlist spimm &&& 0xfff3 = pushWord rlist 0 := by
    decide
  exact Excl.hits_iff.mpr ⟨mem_xAll x, h, pattern rlist spimm⟩

/-- Every row is apart from the words of `cm.push` with a list below 4, where zcmp is on (R120). -/
theorem allRows_apart_list : ∀ rlist : BitVec 4, rlist.toNat < 4 →
    allRows.all (·.apart ((listExcl (some .zcmp) rlist).asRow 16)) = true := by
  refine fun rlist hlist => allRows_all ?_
  revert rlist
  decide

/-- Settles O51: with zcmp the word is cm.push's, whose row carves the lists below 4 out, and no other row holds those;
without it the word is one of c.fsdsp or c.sqsp, by XLEN. -/
theorem pushOrCompressedStore : Obligations.PushOrCompressedStore := by
  intro s rlist spimm h
  obtain ⟨push, store, quad⟩ := materialize_pushWord rlist spimm s.xlen
  obtain ⟨pattern, pattern'⟩ := pushWord_pattern rlist spimm
  by_cases hzcmp : s.cfg.zcmp = true
  · rw [if_pos hzcmp]
    by_cases hlist : rlist.toNat < 4
    · rw [if_pos hlist]
      obtain ⟨hlen, hinst⟩ := inst_of_unit h (fetchLen_pushUnit rlist spimm)
      exact stepGives_of_apart hlen
        (hinst ▸ listExcl_hits (cfg := s.cfg) (flag := some .zcmp) hzcmp rlist spimm s.xlen) (.inr (by decide))
        fun d hd _ r hr => List.all_eq_true.mp (allRows_apart_list rlist hlist) r (mem_allRows hd hr)
    · rw [if_neg hlist]
      obtain ⟨matched, hinst⟩ := matchesBase_of_pattern16 (r := ⟨.cmPush, 16, 0xff03, 0xb802, xAll, some .zcmp,
        [listExcl none 0, listExcl none 1, listExcl none 2, listExcl none 3]⟩) h
        (mem_baseTree_of_file partsCompressed (by decide) (by simp)) pattern rfl (mem_xAll _) hzcmp push
        (decide_eq_true (Nat.not_lt.mp hlist))
      refine stepGives_of_no_target matched rfl ?_ (hinst ▸ push)
      cases s.xlen <;> rfl
  · rw [if_neg hzcmp]
    obtain ⟨inStore, inQuad⟩ :=
      outsideCarve_pushWord (Bool.eq_false_iff.mpr hzcmp) rlist (rlist.extractLsb' 0 3 ++ spimm)
    by_cases hx : s.xlen = .x128
    · rw [if_pos hx]
      obtain ⟨matched, hinst⟩ := matchesBase_of_pattern16 (r := ⟨.cSqsp, 16, 0xe003, 0xa002, x128, none, storeCarve⟩) h
        (mem_baseTree_of_file partsCompressed (by decide) (by simp)) pattern' rfl (by rw [hx]; decide) rfl quad inQuad
      exact stepGives_of_target matched rfl (by rw [hx]; rfl) rfl rfl (hinst ▸ quad)
    · rw [if_neg hx]
      have narrow : s.xlen ∈ x32x64 ∧ Instr.target .cFsdsp s.xlen = some .fsd := by
        cases hxlen : s.xlen
        case x128 => exact absurd hxlen hx
        all_goals decide
      obtain ⟨present, target⟩ := narrow
      obtain ⟨matched, hinst⟩ := matchesBase_of_pattern16
        (r := ⟨.cFsdsp, 16, 0xe003, 0xa002, x32x64, none, storeCarve⟩) h
        (mem_baseTree_of_file partsCompressed (by decide) (by simp)) pattern' rfl present rfl store inStore
      exact stepGives_of_target matched rfl target rfl rfl (hinst ▸ store)

end Sys2Proof.Machine
end

section
/-! Rules about the record that an opcode's meaning drives, in one equation for each way through the expander and the
lifter, about the step at a row that is found, and about the entry that holds it; and the statements of 40_pipeline.md
settled with them. -/

/-! ### Lengths and targets of the opcodes -/

namespace Sys2Proof

/-- Every opcode is a 16-bit one of the base catalog, or a 32-bit one without a target or a nonzero-immediate flag. -/
theorem all_lengths_coherent (i : Instr) : (i.length == 2 && i.catalog == .base ||
    i.length == 4 && !i.descriptor.nonzeroImm && xAll.all (fun x => i.target x == none)) = true := by
  cases i <;> rfl

/-- An opcode is of the base catalog and 2 bytes long, or 4 bytes long, and then nothing is expanded (R64, R208). -/
theorem length_cases (i : Instr) :
    i.length = 2 ∧ i.catalog = .base ∨ i.length = 4 ∧ i.descriptor.nonzeroImm = false ∧ ∀ x, i.target x = none := by
  have coherent := all_lengths_coherent i
  simp only [Bool.or_eq_true, Bool.and_eq_true, beq_iff_eq, Bool.not_eq_true', List.all_eq_true, and_assoc] at coherent
  exact coherent.imp_right (And.imp_right (And.imp_right fun h x => h x (mem_xAll x)))

/-- A 16-bit opcode is of the base catalog (R112). -/
theorem catalog_of_length_two {i : Instr} (h : i.length = 2) : i.catalog = .base := by
  rcases length_cases i with ⟨-, hbase⟩ | ⟨hfour, -⟩
  · exact hbase
  · omega

/-- An opcode with the nonzero-immediate flag is a 16-bit one (R209). -/
theorem length_of_nonzeroImm {i : Instr} (h : i.descriptor.nonzeroImm = true) : i.length = 2 := by
  rcases length_cases i with ⟨htwo, -⟩ | ⟨-, hflag, -⟩
  · exact htwo
  · rw [h] at hflag
    cases hflag

/-- The seven opcodes with the nonzero-immediate flag (R209). -/
theorem nonzeroImm_eq (i : Instr) : i.descriptor.nonzeroImm =
    decide (i ∈ [Instr.cAddi4spn, .cAddi, .cAddi16sp, .cLui, .cSrli, .cSrai, .cSlli]) := by
  cases i <;> rfl

/-- An opcode without a list keeps its name (R211). -/
theorem lifted_of_no_list {i : Instr} (h : i.descriptor.pseudo = []) (o : Operands) : i.lifted o = i := by
  rw [Instr.lifted, h]
  rfl

/-- Only a base opcode has a list (R211). -/
theorem pseudo_of_vendor {i : Instr} (h : i.catalog ≠ .base) : i.descriptor.pseudo = [] := by
  rw [List.eq_nil_iff_forall_not_mem]
  exact fun p hp => h (pseudo_coherent hp).1

/-- The catalog that a row was found in (R201). -/
def Hit.catalog : Hit → Catalog
  | .row c _ => c
  | .openRow c _ => c

end Sys2Proof

namespace Sys2Proof.Machine

/-! ### The lifter and the expander -/

/-- The lifter leaves a record as it is where no rule of its opcode's list holds (R211). -/
theorem lift_of_no_rule {r : DecodedRecord}
    (h : ∀ i, r.op = .std i → ∀ q ∈ i.descriptor.pseudo, q.holds r.toOperands = false) : lift r = r := by
  rcases lift_cases r with hlift | ⟨i, p, -, hop, hf, -⟩
  · exact hlift
  · have holds := List.find?_some hf
    rw [h i hop p (List.mem_of_find?_eq_some hf)] at holds
    cases holds

/-- The lifter leaves a vendor record and an illegal one as they are (R211). -/
theorem lift_of_not_base_std {r : DecodedRecord} (h : r.catalog ≠ .base ∨ r.op = .illegal) : lift r = r := by
  rcases lift_cases r with hlift | ⟨i, p, hcat, hop, -⟩
  · exact hlift
  · rcases h with hvendor | hillegal
    · exact absurd hcat hvendor
    · cases hillegal.symm.trans hop

/-- The lifter gives a record with its opcode's catalog and codec the opcode's lifted name, and changes nothing else
(R211). -/
theorem lift_eq_lifted {r : DecodedRecord} {i : Instr} (hop : r.op = .std i) (hcat : r.catalog = i.catalog)
    (hcodec : r.codec = i.codec) : lift r = { r with op := .std (i.lifted r.toOperands) } := by
  rcases lifted_cases i r.toOperands with ⟨hnone, hname⟩ | ⟨p, hp, hfound, hname⟩ <;> rw [hname]
  · have kept : lift r = r := lift_of_no_rule fun i' hi' q hq => by
      cases hop.symm.trans hi'
      exact Bool.eq_false_iff.mpr (List.find?_eq_none.mp hnone q hq)
    rw [kept, ← hop]
  · obtain ⟨hbase, -, -, -, hsame, -⟩ := pseudo_coherent hp
    rw [lift_of_rule (hcat.trans hbase) hop hfound, hsame, ← hcodec]

/-- The expander leaves an opcode as it is that has no target at XLEN (R208). -/
theorem expand_of_no_target {x : Xlen} {r : DecodedRecord} {i : Instr} (hop : r.op = .std i) (ht : i.target x = none) :
    expand x r = r := by
  simp [expand, hop, ht]

/-- The expander renames an opcode to its target where the nonzero-immediate check does not fail (R208, R209). -/
theorem expand_of_target {x : Xlen} {r : DecodedRecord} {i t : Instr} (hop : r.op = .std i) (hlen : i.length = 2)
    (ht : i.target x = some t) (hnz : ¬(i.descriptor.nonzeroImm = true ∧ r.imm = 0)) :
    expand x r = { r with op := .std t, codec := t.codec } := by
  simpa [expand, hop, hlen, ht] using fun flag zero => absurd ⟨flag, zero⟩ hnz

/-- The expander makes a record illegal where the nonzero-immediate check fails (R209, R210). -/
theorem expand_of_zero_imm {x : Xlen} {r : DecodedRecord} {i t : Instr} (hop : r.op = .std i) (hlen : i.length = 2)
    (ht : i.target x = some t) (hnz : i.descriptor.nonzeroImm = true ∧ r.imm = 0) :
    expand x r = illegalRecord r.len := by
  simp [expand, hop, hlen, ht, hnz]

/-! ### The record of an opcode -/

/-- The record of a 32-bit opcode is what its codec reads, in its catalog, under the lifter's name (R206, R211). -/
theorem decodedRecord_of_length_four {i : Instr} (h : i.length = 4) (s : State) : decodedRecord (.instr i) s =
    s.materialized i.catalog (.std (i.lifted (materialize i.codec s.inst s.xlen))) i.codec := by
  rw [decodedRecord, expand_of_length_four rfl h, lift_eq_lifted rfl rfl rfl]
  rfl

/-- The record of a 16-bit opcode without a target is what its codec reads, under its own name (R206, R208). -/
theorem decodedRecord_of_no_target {i : Instr} {s : State} (h : i.length = 2) (ht : i.target s.xlen = none) :
    decodedRecord (.instr i) s = s.materialized .base (.std i) i.codec := by
  rw [decodedRecord, expand_of_no_target rfl ht, lift_eq_lifted rfl rfl rfl, lifted_of_short (by omega),
    catalog_of_length_two h]
  rfl

/-- The record of a 16-bit opcode with a target is what its codec reads, under the target's lifted name and with the
target's codec, where the nonzero-immediate check does not fail (R206, R208, R211). -/
theorem decodedRecord_of_target {i t : Instr} {s : State} (h : i.length = 2) (ht : i.target s.xlen = some t)
    (hnz : ¬(i.descriptor.nonzeroImm = true ∧ (materialize i.codec s.inst s.xlen).imm = 0)) :
    decodedRecord (.instr i) s = { s.materialized .base (.std i) i.codec with
      op := .std (t.lifted (materialize i.codec s.inst s.xlen)), codec := t.codec } := by
  obtain ⟨hcat, -, -⟩ := target_coherent ht
  rw [decodedRecord, expand_of_target rfl h ht hnz, lift_eq_lifted rfl hcat.symm rfl, catalog_of_length_two h]
  rfl

/-- The record of a 16-bit opcode with a target is illegal where the nonzero-immediate check fails (R209, R210). -/
theorem decodedRecord_of_zero_imm {i t : Instr} {s : State} (h : i.length = 2) (ht : i.target s.xlen = some t)
    (hnz : i.descriptor.nonzeroImm = true ∧ (materialize i.codec s.inst s.xlen).imm = 0) :
    decodedRecord (.instr i) s = illegalRecord s.instLen := by
  rw [decodedRecord, expand_of_zero_imm rfl h ht hnz]
  exact lift_of_not_base_std (.inr rfl)

/-- The record of an opcode is illegal, or of the opcode's catalog with an opcode that the spec gives (R41, R214). -/
theorem decodedRecord_instr_cases (i : Instr) (s : State) : decodedRecord (.instr i) s = illegalRecord s.instLen ∨
    ∃ i', (decodedRecord (.instr i) s).op = .std i' ∧ (decodedRecord (.instr i) s).catalog = i.catalog := by
  rcases length_cases i with ⟨hlen, hbase⟩ | ⟨hlen, -, -⟩
  · rcases ht : i.target s.xlen with _ | t
    · exact .inr ⟨_, by rw [decodedRecord_of_no_target hlen ht, hbase]; exact ⟨rfl, rfl⟩⟩
    · by_cases hnz : i.descriptor.nonzeroImm = true ∧ (materialize i.codec s.inst s.xlen).imm = 0
      · exact .inl (decodedRecord_of_zero_imm hlen ht hnz)
      · exact .inr ⟨_, by rw [decodedRecord_of_target hlen ht hnz, hbase]; exact ⟨rfl, rfl⟩⟩
  · exact .inr ⟨_, by rw [decodedRecord_of_length_four hlen]; exact ⟨rfl, rfl⟩⟩

/-- An opcode's meaning outputs the opcode's record and changes nothing else (R200). -/
theorem execGives_decodedRecord (i : Instr) (s : State) : ExecGives i s (decodedRecord (.instr i) s) :=
  exec_eq_emit i s

/-! ### The step at the row that the dispatcher finds -/

/-- Where the dispatcher finds a given row, the step gives the record of the row's opcode (R200). -/
theorem stepGives_of_dispatch_row {s : State} {c : Catalog} {r : Row}
    (hd : dispatch s.inst s.instLen s.xlen s.cfg s.vendorRows = some (.row c r)) :
    StepGives s (decodedRecord (.instr r.op) s) := by
  have gives := stepGives_decodedRecord s
  rw [decode_of_dispatch_row hd] at gives
  split_ifs at gives
  · rwa [decodedRecord_lifted] at gives
  · exact gives

/-- A row of the base tree has its opcode's width (R110). -/
theorem width_of_baseTree {r : Row} (hr : r ∈ baseTree) : r.nbits = 8 * r.op.length := by
  obtain ⟨-, hwidth, -⟩ := row_shape (e := ⟨none, .base, .given baseParts⟩) List.mem_cons_self hr
  exact hwidth

/-- The step at a matching row of the base tree with a 16-bit opcode gives the record of the opcode. -/
theorem stepGives_of_matchesBase16 {s : State} {r : Row} (h : s.MatchesBase r) (hlen : r.op.length = 2) :
    s.instLen = 2 ∧ StepGives s (decodedRecord (.instr r.op) s) := by
  have found := dispatch_of_matchesBase h
  obtain ⟨-, -, same, -⟩ := row_of_candidate (candidate_of_dispatch found)
  exact ⟨same.symm.trans hlen, stepGives_of_dispatch_row found⟩

/-- Where the dispatcher finds a row of a vendor catalog, the step gives what the row's codec reads, under the row's opcode
(R206); the record is neither expanded nor lifted (R208, R211). -/
theorem stepGives_of_vendor_dispatch {s : State} {c : Catalog} {r : Row} {o : Operands}
    (hd : dispatch s.inst s.instLen s.xlen s.cfg s.vendorRows = some (.row c r)) (hc : c ≠ .base)
    (ho : materialize r.op.codec s.inst s.xlen = o) :
    StepGives s { o with len := 4, catalog := c, op := .std r.op, codec := r.op.codec } := by
  subst ho
  obtain ⟨hcat, -, hlen, -⟩ := row_of_candidate (candidate_of_dispatch hd)
  have vendor : r.op.catalog ≠ .base := hcat ▸ hc
  have long : r.op.length = 4 := by
    rcases length_cases r.op with ⟨-, hbase⟩ | ⟨hfour, -⟩
    · exact absurd hbase vendor
    · exact hfour
  have gives := stepGives_of_dispatch_row hd
  rw [decodedRecord_of_length_four long, lifted_of_no_list (pseudo_of_vendor vendor), State.materialized,
    hlen.symm.trans long, ← hcat] at gives
  exact gives

/-! ### The entry that holds a row -/

/-- An entry finds the row of its tree that matches (R203, R204). -/
theorem search_of_matches {e : DispatchEntry} (he : e ∈ dispatchTable) {r : Row} (hr : r ∈ e.tree.rows) {w : Inst}
    {len : Nat} {x : Xlen} {cfg : Cfg} (hm : r.matchesWord w len x cfg = true) (vr : List VendorRow) :
    e.search w len x cfg vr = some (.row e.catalog r) := by
  rcases ht : e.tree with parts | f
  · rw [search_eq_find? he ht]
    rcases hf : e.tree.rows.find? (fun q => q.matchesWord w len x cfg) with _ | q
    · exact absurd hm (List.find?_eq_none.mp hf r hr)
    · have hmq := List.find?_some hf
      obtain rfl := eq_of_matches (mem_allRows he hr) (mem_allRows he (List.mem_of_find?_eq_some hf)) hm hmq
      exact congrArg (Option.map (Hit.row e.catalog)) hf
  · rw [ht] at hr
    cases hr

/-- An entry that holds a matching row, where the row `q` matches too, is one with the guard of `q` (R201, R204). -/
theorem guard_of_entryHasRow {e : DispatchEntry} (he : e ∈ dispatchTable) {s : State} {c : Catalog} {r q : Row}
    (h : EntryHasRow e s (.row c r)) (hq : q ∈ allRows)
    (hm : q.matchesWord s.inst s.instLen s.xlen s.cfg = true) : e.guard = q.op.treeGuard := by
  obtain ⟨-, hr, hmr⟩ := h
  obtain rfl := eq_of_matches (mem_allRows he hr) hq hmr hm
  have gates := List.all_eq_true.mp (List.all_eq_true.mp dispatchTable_gates e he) r hr
  rw [Bool.and_eq_true, beq_iff_eq] at gates
  exact gates.1

/-- A row is found in its entry's catalog (R201). -/
theorem hit_catalog_of_entryHasRow {e : DispatchEntry} {s : State} {h : Hit} (hrow : EntryHasRow e s h) :
    h.catalog = e.catalog := by
  cases h with
  | row c r => exact hrow.1
  | openRow c v => exact hrow.1

/-- A vendor record comes from a row that the dispatcher found in the record's catalog (R214). -/
theorem hit_of_vendor_record {s t : State} (hs : step s = .next t) (hvendor : t.record.catalog ≠ .base) :
    ∃ h, dispatch s.inst s.instLen s.xlen s.cfg s.vendorRows = some h ∧ h.catalog = t.record.catalog := by
  have record_eq : t.record = decodedRecord (decode s.win s.xlen s.cfg s.vendorRows) s := by rw [eq_of_step hs]; rfl
  rcases decode_cases s with ⟨r, -, -, hd, -⟩ | ⟨v, -, hd, hv⟩ | ⟨why, -, hrejected⟩
  · have gives := stepGives_of_dispatch_row hd
    rw [StepGives, hs, Host.Outcome.next.injEq] at gives
    have named : t.record = decodedRecord (.instr r.op) s := by rw [gives]
    rw [named] at hvendor ⊢
    rcases decodedRecord_instr_cases r.op s with hillegal | ⟨-, -, hcat⟩
    · rw [hillegal] at hvendor
      exact absurd rfl hvendor
    · exact ⟨_, hd, hcat.symm⟩
  · rw [record_eq, hv]
    exact ⟨_, hd, rfl⟩
  · rw [record_eq, hrejected] at hvendor
    exact absurd rfl hvendor

/-- The entries of a vendor catalog are guarded by the catalog's flags, and only those entries have a guard (R201). -/
theorem vendor_entries : ∀ e ∈ dispatchTable,
    (e.catalog = .base → e.guard = none) ∧
    (e.catalog = .xthead → ∃ f ∈ [Flag.xtheadba, .xtheadbb, .xtheadbs, .xtheadcmo, .xtheadcondmov, .xtheadfmemidx,
      .xtheadfmv, .xtheadmac, .xtheadmemidx, .xtheadmempair, .xtheadsync], e.guard = some f) ∧
    (e.catalog = .xventana → e.guard = some .xventanacondops) := by
  decide

/-! ### The statements -/

/-- Settles O17: the meaning outputs a record of the length of R62. -/
theorem everyOpcodeCompletes : Obligations.EveryOpcodeCompletes := by
  intro i s
  refine ⟨_, execGives_decodedRecord i s, rfl, rfl, rfl, rfl, rfl, ?_, rfl⟩
  exact decodedRecord_len (.instr i) s

/-- Settles O18: a 32-bit opcode is not expanded, and the lifter names it. -/
theorem fourByteOpcodesGiveTheirRecord : Obligations.FourByteOpcodesGiveTheirRecord := by
  intro i s hlen
  have gives := execGives_decodedRecord i s
  rw [decodedRecord_of_length_four hlen] at gives
  exact gives

/-- Settles O19: the expander leaves a 16-bit opcode, makes its record illegal, or renames it to a target that the
lifter names. -/
theorem twoByteOpcodesGiveTheirRecord : Obligations.TwoByteOpcodesGiveTheirRecord := by
  refine ⟨fun i => (length_cases i).imp And.left And.left, fun i s hlen => ?_⟩
  have gives := execGives_decodedRecord i s
  dsimp only
  rcases ht : i.target s.xlen with _ | t
  · rw [decodedRecord_of_no_target hlen ht] at gives
    exact gives
  · refine ⟨fun hnz => ?_, fun hnz => ?_⟩
    · rw [decodedRecord_of_zero_imm hlen ht hnz] at gives
      exact gives
    · rw [decodedRecord_of_target hlen ht hnz] at gives
      exact gives

/-- Settles O20: the lifter's name has no list, so a second lift finds no rule. -/
theorem liftIsIdempotent : Obligations.LiftIsIdempotent := by
  have no_list {i : Instr} {p : PseudoRule} (hp : p ∈ i.descriptor.pseudo) : p.op.descriptor.pseudo = [] := by
    obtain ⟨-, -, -, -, -, hlist⟩ := pseudo_coherent hp
    exact hlist
  refine ⟨fun r => ?_, fun i p hp => no_list hp⟩
  rcases lift_cases r with hlift | ⟨i, p, -, -, hfound, hlift⟩
  · rw [hlift, hlift]
  · rw [hlift]
    exact lift_of_no_list fun i' hi' => by
      cases hi'
      exact no_list (List.mem_of_find?_eq_some hfound)

/-- Settles O21: the lifter takes what a search of the opcode's list finds first. -/
theorem liftTakesTheFirstRule : Obligations.LiftTakesTheFirstRule := by
  refine ⟨fun r i pre post p hcat hop hlist hpre hp => ?_, fun r i hop hnone => ?_, fun r => lift_of_not_base_std,
    lift_toOperands⟩
  · have found : i.descriptor.pseudo.find? (PseudoRule.holds r.toOperands) = some p :=
      List.find?_eq_some_iff_append.mpr ⟨hp, pre, post, hlist, fun q hq => by rw [hpre q hq]; rfl⟩
    obtain ⟨-, -, -, -, hcodec, -⟩ := pseudo_coherent (List.mem_of_find?_eq_some found)
    rw [lift_of_rule hcat hop found, hcodec]
  · refine lift_of_no_rule fun i' hi' => ?_
    cases hop.symm.trans hi'
    exact hnone

/-- Settles O28: the one function of R200 answers what the decoder found, and so does the step. -/
theorem stepRefinesThePipeline : Obligations.StepRefinesThePipeline := by
  intro s
  refine ⟨_, step_eq_decodedRecord s, ?_⟩
  rw [decodeBlock_eq]
  simp

/-- Settles O1: the opcode's meaning outputs the record that the step outputs and steps past. -/
theorem stepRunsTheDecodedOpcode : Obligations.StepRunsTheDecodedOpcode := by
  intro s i hd
  refine ⟨_, execGives_decodedRecord i s, ?_⟩
  rw [step_eq_decodedRecord, hd]
  rfl

/-- Settles O6: the length is a class of R62; a named opcode gives the illegal record or a consistent one, and an OPEN row
that is found is one of the caller's. -/
theorem everyDecodeAnswers : Obligations.EveryDecodeAnswers := by
  intro s
  refine ⟨_, step_eq_decodedRecord s, ?_, rfl, ?_⟩
  · have legal := legalLen_instLen s
    simp only [legalLen, Bool.or_eq_true, beq_iff_eq, or_assoc] at legal
    simpa using legal
  · rw [State.advance_record, State.output_record]
    rcases decode_cases s with ⟨r, -, -, -, hdecode⟩ | ⟨v, -, hd, hdecode⟩ | ⟨why, -, hdecode⟩ <;> rw [hdecode]
    · generalize (if s.instLen = 4 then r.op.lifted (materialize r.op.codec s.inst s.xlen) else r.op) = i
      rcases decodedRecord_instr_cases i s with hillegal | ⟨i', hop, -⟩
      · exact .inl (by rw [hillegal]; rfl)
      · obtain ⟨-, hcat, -⟩ := (consistent_std_iff hop).mp (consistent_decodedRecord (.instr i) s)
        exact .inr (.inl ⟨i', hop, hcat.symm⟩)
    · obtain ⟨-, -, -, -, -, hv, -⟩ := candidate_of_dispatch hd
      exact .inr (.inr ⟨v, hv, rfl, rfl⟩)
    · exact .inl rfl

/-- Settles O9: without a candidate the dispatcher finds nothing, at every length. -/
theorem unmatchedWordIsIllegal : Obligations.UnmatchedWordIsIllegal :=
  fun _ hnone => stepGives_of_no_candidate hnone

/-- Settles O10: every given row is apart from each other one. -/
theorem noTwoRowsMatch : Obligations.NoTwoRowsMatch :=
  fun _ _ _ _ _ _ hr hq hmr hmq => eq_of_matches hr hq hmr hmq

/-- Settles O11: the entry finds its one matching row, and no earlier entry finds any. -/
theorem firstEnabledEntryWins : Obligations.FirstEnabledEntryWins := by
  intro s k e r hk hguard hr hm hearlier
  exact dispatch_eq_of_first hk hguard (search_of_matches (List.mem_of_getElem? hk) hr hm _) hearlier

/-- Settles O12: a vendor record comes from a row found in its catalog, and a row of the base tree would have been found
first. -/
theorem vendorOnlyAfterBase : Obligations.VendorOnlyAfterBase := by
  intro s t hs hvendor
  obtain ⟨h, hd, hcat⟩ := hit_of_vendor_record hs hvendor
  obtain ⟨e, he, hguard, hrow⟩ := candidate_of_dispatch hd
  have entry_cat : e.catalog = t.record.catalog := (hit_catalog_of_entryHasRow hrow).symm.trans hcat
  obtain ⟨-, hthead, hventana⟩ := vendor_entries e he
  refine ⟨fun r hr => ?_, fun hc => ?_, fun hc => ?_⟩
  · cases hd.symm.trans (dispatch_of_matchesBase hr)
    exact hvendor hcat.symm
  · obtain ⟨f, hf, hg⟩ := hthead (entry_cat.trans hc)
    exact ⟨f, hf, by rwa [hg] at hguard⟩
  · rwa [hventana (entry_cat.trans hc)] at hguard

/-- Settles O22: the row's opcode is a 16-bit one, for it has the flag, and its record is illegal. -/
theorem nonzeroImmediateCheck : Obligations.NonzeroImmediateCheck := by
  refine ⟨fun i => by rw [nonzeroImm_eq, decide_eq_true_eq], fun s r h hflag htarget himm => ?_⟩
  obtain ⟨t, ht⟩ := Option.isSome_iff_exists.mp htarget
  have short := length_of_nonzeroImm hflag
  obtain ⟨two, gives⟩ := stepGives_of_matchesBase16 h short
  rw [decodedRecord_of_zero_imm short ht ⟨hflag, himm⟩, two] at gives
  exact gives

/-- Settles O23: the row's opcode is expanded to its target, if there is one, which the lifter names. -/
theorem compressedWordDecodes : Obligations.CompressedWordDecodes := by
  intro s r h h16 hpass
  have short : r.op.length = 2 := by
    have width := width_of_baseTree h.1
    omega
  obtain ⟨two, gives⟩ := stepGives_of_matchesBase16 h short
  dsimp only
  rcases ht : r.op.target s.xlen with _ | t
  · rw [decodedRecord_of_no_target short ht, State.materialized, two] at gives
    exact gives
  · rw [decodedRecord_of_target short ht fun ⟨flag, zero⟩ => hpass ⟨flag, by simp [ht], zero⟩, State.materialized,
      two] at gives
    exact gives

/-- Settles O24: the row of the base tree is found before every OPEN row. -/
theorem baseWordDecodes : Obligations.BaseWordDecodes :=
  fun _ _ h h32 => stepGives_of_matchesBase h h32 rfl

/-- Settles O25: the row is found where no OPEN row is in its way, and a guarded entry is of a vendor catalog. -/
theorem vendorWordDecodes : Obligations.VendorWordDecodes := by
  intro s e f r hvr he hguard hflag hr hm
  have vendor : e.catalog ≠ .base := by
    obtain ⟨hbase, -⟩ := vendor_entries e he
    intro hc
    cases hguard.symm.trans (hbase hc)
  have candidate : s.Candidate (.row e.catalog r) := ⟨e, he, by rw [hguard]; exact hflag, rfl, hr, hm⟩
  exact stepGives_of_vendor_dispatch (dispatch_of_candidate candidate hvr) vendor rfl

end Sys2Proof.Machine
end

section
/-! Rules about the opcodes that the lifter leaves alone and about the words of `th.addsl` and `th.ext`, and the other
statements of 40_pipeline.md settled with them. -/

namespace Sys2Proof

/-! ### Opcodes that the lifter leaves alone -/

/-- A 32-bit opcode of this codec and catalog without a list (R211). -/
def Instr.unlifted (c : Codec) (k : Catalog) (i : Instr) : Bool :=
  i.codec == c && i.catalog == k && i.length == 4 && i.descriptor.pseudo.isEmpty

/-- The name of an opcode whose one rule asks for equal sources (48_pseudo.md). -/
theorem lifted_of_rs2IsRs1 {i p : Instr} (h : i.descriptor.pseudo = [⟨p, [.rs2IsRs1]⟩]) (o : Operands) :
    i.lifted o = if o.rs2 = o.rs1 then p else i := by
  rw [lifted_eq_foldr, h]
  simp [holds_iff, Constraint.holds]

/-- The name of an opcode whose one rule asks for three equal registers (48_pseudo.md). -/
theorem lifted_of_rdIsRs1_rs2IsRs1 {i p : Instr} (h : i.descriptor.pseudo = [⟨p, [.rdIsRs1, .rs2IsRs1]⟩])
    (o : Operands) : i.lifted o = if o.rd = o.rs1 ∧ o.rs2 = o.rs1 then p else i := by
  rw [lifted_eq_foldr, h]
  simp [holds_iff, Constraint.holds]

/-! ### The codecs of two vendor opcodes -/

/-- The codec of `th.addsl` reads three registers and the two bits above them (R371). -/
theorem materialize_addsl (f5 : BitVec 5) (imm2 : BitVec 2) (rs2 rs1 : RegIdx) (f3 : BitVec 3) (rd : RegIdx)
    (op : BitVec 7) (x : Xlen) : materialize .r_imm2 (rWord (f5 ++ imm2) rs2 rs1 f3 rd op) x =
      { rd, rs1, rs2, imm := zextImm imm2 } := by
  simp (disch := decide) only [rWord, materialize, bits, BitVec.extractLsb, BitVec.extractLsb'_append_eq_of_le,
    BitVec.extractLsb'_append_eq_of_add_le]
  simp only [Nat.reduceSub, Nat.reduceAdd, BitVec.extractLsb'_eq_self]

/-- The codec of `th.ext` reads the halves of the I word's immediate as two immediates (R374). -/
theorem materialize_ext (immh imml : BitVec 6) (rs1 : RegIdx) (f3 : BitVec 3) (rd : RegIdx) (op : BitVec 7) (x : Xlen) :
    materialize .r2_immhl (iWord (immh ++ imml) rs1 f3 rd op) x =
      { rd, rs1, imm := zextImm immh, imm1 := zextImm imml } := by
  simp (disch := decide) only [iWord, materialize, bits, BitVec.extractLsb, BitVec.extractLsb'_append_eq_of_le,
    BitVec.extractLsb'_append_eq_of_add_le]
  simp only [Nat.reduceSub, Nat.reduceAdd, BitVec.extractLsb'_eq_self]

end Sys2Proof

namespace Sys2Proof.Machine

/-- A 32-bit opcode's meaning outputs what its codec reads, under the lifter's name (R206, R211). -/
theorem execGives_of_lifted {i name : Instr} {c : Codec} {k : Catalog} {s : State} (hlen : i.length = 4)
    (hc : i.codec = c) (hk : i.catalog = k) (hname : i.lifted (materialize c s.inst s.xlen) = name) :
    ExecGives i s (s.materialized k (.std name) c) := by
  subst hc hk hname
  have gives := execGives_decodedRecord i s
  rwa [decodedRecord_of_length_four hlen] at gives

/-- The meanings of a group of opcodes that the lifter leaves alone. -/
theorem execGives_of_unlifted {c : Codec} {k : Catalog} {group : List Instr} (s : State)
    (h : group.all (Instr.unlifted c k) = true) :
    ∀ i ∈ group, ExecGives i s (s.materialized k (.std i) c) := by
  intro i hi
  have unlifted := List.all_eq_true.mp h i hi
  simp only [Instr.unlifted, Bool.and_eq_true, beq_iff_eq, List.isEmpty_iff] at unlifted
  obtain ⟨⟨⟨hc, hk⟩, hlen⟩, hlist⟩ := unlifted
  exact execGives_of_lifted hlen hc hk (lifted_of_no_list hlist _)

/-! ### The statements -/

/-- Settles O60: the opcodes of each group have its codec and catalog and no list; the six others have one rule each. -/
theorem laterOpcodesGiveTheirRecord : Obligations.LaterOpcodesGiveTheirRecord := by
  intro s
  dsimp only
  iterate 27 refine ⟨execGives_of_unlifted s (by decide), ?_⟩
  exact ⟨execGives_of_lifted rfl rfl rfl (lifted_of_rs2IsRs1 rfl _),
    execGives_of_lifted rfl rfl rfl (lifted_of_rdIsRs1_rs2IsRs1 rfl _),
    execGives_of_lifted rfl rfl rfl (lifted_of_rs2IsRs1 rfl _),
    execGives_of_lifted rfl rfl rfl (lifted_of_rdIsRs1_rs2IsRs1 rfl _),
    execGives_of_lifted rfl rfl rfl (lifted_of_rs2IsRs1 rfl _),
    execGives_of_lifted rfl rfl rfl (lifted_of_rs2IsRs1 rfl _)⟩

/-- The row of `th.addsl` (R7000). -/
def addslRow : Row := ⟨.thAddsl, 32, 0xf800707f, 0x0000100b, xAll, none, []⟩

/-- Settles O56: the word matches the row of th.addsl and so no other, whose tree the flag guards. -/
theorem theadAddslNeedsItsFlag : Obligations.TheadAddslNeedsItsFlag := by
  intro s imm2 rs2 rs1 rd h hvr
  change s.presents32 (rWord (0b00000#5 ++ imm2) rs2 rs1 0b001 rd 0b0001011) at h
  obtain ⟨hlen, hinst⟩ := inst_of_presents32 h ((fetchLen_rWord ..).trans (by decide))
  have funct : (0b00000#5 ++ imm2) &&& (BitVec.allOnes 5 ++ 0#2) = 0b00000#5 ++ 0#2 :=
    append_and_append_eq BitVec.and_allOnes BitVec.and_zero
  have pattern := rWord_and_mask (rs2 := rs2) (m2 := 0#5) (f3 := 0b001) funct BitVec.and_zero BitVec.and_allOnes
    rs1 rd 0b0001011
  have matched : addslRow.matchesWord s.inst s.instLen s.xlen s.cfg = true := by
    rw [hinst, hlen]
    exact Row.matchesWord_iff.mpr ⟨pattern, rfl, mem_xAll _, rfl, fun _ he => nomatch he⟩
  have hd : (⟨some .xtheadba, .xthead, .given [partXtheadba]⟩ : DispatchEntry) ∈ dispatchTable := by decide
  have hr : addslRow ∈ (Tree.given [partXtheadba]).rows := by decide
  by_cases hflag : s.cfg.xtheadba = true
  · rw [if_pos hflag]
    have candidate : s.Candidate (.row .xthead addslRow) := ⟨_, hd, hflag, rfl, hr, matched⟩
    exact stepGives_of_vendor_dispatch (dispatch_of_candidate candidate hvr) (by decide)
      (hinst ▸ materialize_addsl ..)
  · rw [if_neg hflag]
    have none_found : ∀ hit, ¬ s.Candidate hit := by
      rintro (⟨c, r⟩ | ⟨c, v⟩) ⟨e, he, hguard, hrow⟩
      · rw [guard_of_entryHasRow he hrow (mem_allRows hd hr) matched] at hguard
        exact hflag hguard
      · obtain ⟨-, -, hv, -⟩ := hrow
        rw [hvr] at hv
        cases hv
    have gives := stepGives_of_no_candidate none_found
    rw [hlen] at gives
    exact gives

/-- The row of `th.ext` (R7003). -/
def extRow : Row := ⟨.thExt, 32, 0x0000707f, 0x0000200b, xAll, none, []⟩

/-- The entries before the tree of xtheadbb have given trees, with other guards (R201). -/
theorem entries_before_xtheadbb : ∀ e ∈ dispatchTable.take 2,
    e.guard ≠ some .xtheadbb ∧ e.tree = .given e.tree.parts := by
  decide

/-- Settles O57: the word matches the row of th.ext and so no other, and the entries before its tree have no OPEN rows. -/
theorem theadExtHasTwoImmediates : Obligations.TheadExtHasTwoImmediates := by
  intro s immh imml rs1 rd h hflag
  change s.presents32 (iWord (immh ++ imml) rs1 0b010 rd 0b0001011) at h
  obtain ⟨hlen, hinst⟩ := inst_of_presents32 h ((fetchLen_iWord ..).trans (by decide))
  have matched : extRow.matchesWord s.inst s.instLen s.xlen s.cfg = true := by
    rw [hinst, hlen]
    exact Row.matchesWord_iff.mpr ⟨iWord_and_opcode .., rfl, mem_xAll _, rfl, fun _ he => nomatch he⟩
  have hd : (⟨some .xtheadbb, .xthead, .given [partXtheadbb]⟩ : DispatchEntry) ∈ dispatchTable := by decide
  have hr : extRow ∈ (Tree.given [partXtheadbb]).rows := by decide
  have found : dispatch s.inst s.instLen s.xlen s.cfg s.vendorRows = some (.row .xthead extRow) := by
    refine firstEnabledEntryWins s 2 _ extRow rfl hflag hr matched fun k e hk he _ hit hrow => ?_
    have earlier : e ∈ dispatchTable.take 2 := List.mem_of_getElem? ((List.getElem?_take_of_lt hk).trans he)
    obtain ⟨hguard, htree⟩ := entries_before_xtheadbb e earlier
    rcases hit with ⟨c, r⟩ | ⟨c, v⟩
    · exact hguard (guard_of_entryHasRow (List.mem_of_getElem? he) hrow (mem_allRows hd hr) matched)
    · obtain ⟨-, hopen, -⟩ := hrow
      cases htree.symm.trans hopen
  exact stepGives_of_vendor_dispatch found (by decide) (hinst ▸ materialize_ext ..)

/-- Settles O59: one evaluation of the decoder for each word. -/
theorem writtenWordsDecode : Obligations.WrittenWordsDecode := by
  refine ⟨?_, ?_, ?_, ?_, ?_, ?_, ?_, ?_, ?_, ?_, ?_, ?_, ?_, ?_⟩
  all_goals decide +kernel

end Sys2Proof.Machine
end

section
/-! Rules about the outcome of a step, by what the dispatcher finds, and the statement of 60_exceptions.md settled with
them. -/

namespace Sys2Proof.Machine

/-! ### The record by what the dispatcher finds -/

/-- The record that a step outputs is the one that the step gives. -/
theorem record_of_stepGives {s t : State} {r : DecodedRecord} (hg : StepGives s r) (hs : step s = .next t) :
    t.record = r := by
  rw [StepGives, hs, Host.Outcome.next.injEq] at hg
  rw [hg]

/-- Where the dispatcher finds an OPEN row, the step gives what the row's codec reads, under the row's opcode (R10,
R206). -/
theorem stepGives_of_dispatch_openRow {s : State} {c : Catalog} {v : VendorRow}
    (hd : dispatch s.inst s.instLen s.xlen s.cfg s.vendorRows = some (.openRow c v)) :
    StepGives s (s.materialized .xthead (.openVendor v.id) v.codec) := by
  obtain ⟨-, hlen⟩ := openRow_of_candidate (candidate_of_dispatch hd)
  have gives := stepGives_decodedRecord s
  rwa [decode_of_dispatch_openRow (by omega) hd] at gives

/-- The nonzero-immediate check can fail for a 16-bit opcode alone (R209). -/
theorem length_of_nonzeroImmFails {i : Instr} {s : State} (h : NonzeroImmFails i s) : i.length = 2 := by
  obtain ⟨hflag, -, -⟩ := h
  exact length_of_nonzeroImm hflag

/-- The record of an opcode is illegal just where its nonzero-immediate check fails (R209, R210). -/
theorem decodedRecord_instr_illegal_iff (i : Instr) (s : State) :
    (decodedRecord (.instr i) s).op = .illegal ↔ NonzeroImmFails i s := by
  rcases length_cases i with ⟨hlen, -⟩ | ⟨hlen, hflag, -⟩
  · rcases ht : i.target s.xlen with _ | t
    · rw [decodedRecord_of_no_target hlen ht]
      simp [NonzeroImmFails, ht]
    · by_cases hnz : i.descriptor.nonzeroImm = true ∧ (materialize i.codec s.inst s.xlen).imm = 0
      · rw [decodedRecord_of_zero_imm hlen ht hnz]
        simp [NonzeroImmFails, illegalRecord, ht, hnz]
      · rw [decodedRecord_of_target hlen ht hnz]
        simpa [NonzeroImmFails, ht] using hnz
  · rw [decodedRecord_of_length_four hlen]
    simp [NonzeroImmFails, hflag]

/-! ### What makes a word illegal, by what the dispatcher finds -/

/-- A matching row, given or OPEN, is of a word of 2 or 4 bytes (R64, R110). -/
theorem instLen_of_candidate {s : State} {h : Hit} (hc : s.Candidate h) : s.instLen ∈ [2, 4] := by
  cases h with
  | row c r =>
    obtain ⟨-, -, -, hmem⟩ := row_of_candidate hc
    exact hmem
  | openRow c v =>
    obtain ⟨-, hlen⟩ := openRow_of_candidate hc
    simp [hlen]

/-- The reasons of R9001 for which a word with a length is illegal: a length that no tree holds, no matching row, or a
matching base row whose nonzero-immediate check fails. -/
def State.IllegalReason (s : State) : Prop :=
  s.instLen = 6 ∨ s.instLen = 8 ∨ (∀ h, ¬ s.Candidate h) ∨ ∃ r, s.MatchesBase r ∧ NonzeroImmFails r.op s

/-- Where the dispatcher finds a row, the nonzero-immediate check of a base row is the one reason left (R9001): a
matching row of the base tree is the row found (R201, R204). -/
theorem illegalReason_iff_of_dispatch {s : State} {h : Hit}
    (hd : dispatch s.inst s.instLen s.xlen s.cfg s.vendorRows = some h) :
    s.IllegalReason ↔ ∃ r, h = .row .base r ∧ NonzeroImmFails r.op s := by
  have candidate := candidate_of_dispatch hd
  have lengths := instLen_of_candidate candidate
  constructor
  · rintro (hsix | height | hnone | ⟨r, hr, hfails⟩)
    · simp [hsix] at lengths
    · simp [height] at lengths
    · exact absurd candidate (hnone h)
    · exact ⟨r, Option.some.inj (hd.symm.trans (dispatch_of_matchesBase hr)), hfails⟩
  · rintro ⟨r, rfl, hfails⟩
    exact .inr (.inr (.inr ⟨r, matchesBase_of_candidate candidate, hfails⟩))

/-- A step outputs an illegal record just where there is a reason for it (R205, R210, R9001). -/
theorem illegal_iff_of_step {s t : State} (hs : step s = .next t) : t.record.op = .illegal ↔ s.IllegalReason := by
  rcases hd : dispatch s.inst s.instLen s.xlen s.cfg s.vendorRows with _ | ⟨c, r⟩ | ⟨c, v⟩
  · have none_found := not_candidate_of_dispatch_none hd
    rw [record_of_stepGives (stepGives_of_no_candidate none_found) hs]
    exact iff_of_true rfl (.inr (.inr (.inl none_found)))
  · rw [record_of_stepGives (stepGives_of_dispatch_row hd) hs, decodedRecord_instr_illegal_iff,
      illegalReason_iff_of_dispatch hd]
    constructor
    · intro hfails
      obtain ⟨hcat, -⟩ := row_of_candidate (candidate_of_dispatch hd)
      exact ⟨r, by rw [hcat, catalog_of_length_two (length_of_nonzeroImmFails hfails)], hfails⟩
    · rintro ⟨q, ⟨⟩, hfails⟩
      exact hfails
  · rw [record_of_stepGives (stepGives_of_dispatch_openRow hd) hs, illegalReason_iff_of_dispatch hd]
    simp

/-! ### The statement -/

/-- Settles O7: a step's length is that of R62, and its record is illegal for the reasons of R9001. -/
theorem outcomeSelection : Obligations.OutcomeSelection := by
  intro s t hs
  have illegal_iff := illegal_iff_of_step hs
  rw [State.IllegalReason, instLen_eq, ← len_of_step hs] at illegal_iff
  refine ⟨?_, fun _ => illegal_iff⟩
  rw [len_of_step hs, fetchLen_eq_zero_iff]

end Sys2Proof.Machine
end

section
/-! The outputs right after reset, and the statement of 70_reset_and_hazards.md. -/

namespace Sys2Proof.Machine

/-- The record starts at the illegal record of length 0: the per-decode defaults of R9101 are those of R41. -/
@[simp] theorem reset_record : State.reset.record = illegalRecord 0 := rfl

/-- No decode has been made at reset (R9101; assumption log 4). -/
@[simp] theorem reset_len : State.reset.len = 0 := rfl

/-- The invariant of the outputs holds at reset: the record is an illegal one, of a length that the block can output. -/
theorem inv_reset : State.reset.Inv = true := by
  rw [State.Inv, reset_record, reset_len, consistent_illegalRecord]
  rfl

/-- Settles O27: the outputs start as the block drives them for an illegal instruction of length 0, with every field of
the record at its default. -/
theorem resetIsConsistent : Obligations.ResetIsConsistent :=
  ⟨inv_reset, reset_len, reset_record⟩

end Sys2Proof.Machine
end
